-- ==== Sys2Proof/Word.lean ====
section
/-! DEFINITION. The word types of the HT410's two ports and the chain number. -/

namespace Sys2Proof

/-- A byte of a Burst Link frame, of a Policy Port frame or of a request descriptor. -/
abbrev Byte := BitVec 8

/-- A word of the start-up image as the flash port reads it (12.4.6). -/
abbrev Word16 := BitVec 16

/-- A transmit chain, numbered 0..3 (0.6.6). -/
abbrev Chain := Fin 4

/-- A temperature sensor input, numbered 0..4; input 4 is the board sensor (R93). -/
abbrev Input := Fin 5

/-- The eight bytes a BURST_REQ carries to describe the burst (12.4.1). -/
abbrev Descriptor := Vector Byte 8

end Sys2Proof
end

