-- ==== Sys2Proof/Syntax.lean ====
section
/-! DEFINITION. The commands: one constructor per row of spec/opcode_table.json. Each is one whole,
indivisible step of the part. -/

namespace Sys2Proof

/-- The two supply overload lines the power manager drives (R141). -/
inductive OvlLine where
  | warn
  | crit
  deriving DecidableEq, Repr

/-- A command: an event at the part's ports, lines or timers. -/
inductive Instr where
  /-- Supply start or release of RST_N, with the levels the pins show then: ADDR_SEL (`true` is high)
  and the two overload lines (`true` is asserted) (R148, R175, R179). -/
  | powerOn (addrSel ovlWarn ovlCrit : Bool)
  /-- Assertion of RST_N (R179). -/
  | rstNAssert
  /-- The image load ends. `flash` lists the words the serial flash holds from byte 0x000000; a word
  it does not give reads 0xFFFF, as on a flash that does not respond (R179..R181). -/
  | loadCompletion (flash : List Word16)
  /-- BURST_REQ with its request fields (R16). -/
  | burstReq (chain tag preq duration : Byte) (descriptor : Descriptor)
  /-- BURST_CLOSE with its request fields (R43). -/
  | burstClose (chain tag pact dact reflect : Byte)
  /-- READ_NOTICE (R170). -/
  | readNotice
  /-- READ_LINK_STATUS (R174). -/
  | readLinkStatus
  /-- LINK_RESET (R54). -/
  | linkReset
  /-- A Burst Link frame whose kind is unknown or whose length byte differs from its kind's (R173). -/
  | badFrame (kind length : Byte)
  /-- A Burst Link frame released before its request part is complete, with the bytes that arrived (R173). -/
  | shortFrame (received : List Byte)
  /-- Expiry of the lifetime timer of the open grant with this tag on this chain (R50). -/
  | lapse (chain : Chain) (tag : Byte)
  /-- Expiry of the bucket timer (R64). -/
  | bucketExpiry
  /-- Expiry of the step timer (R77). -/
  | modelStep
  /-- Expiry of the conversion timer, with the 12-bit raw reading of the conversion in flight (R94). -/
  | conversionTimerExpiry (raw : BitVec 12)
  /-- Expiry of the period timer (R122). -/
  | periodBoundary
  /-- An overload pin takes a level; `true` is asserted (R141). -/
  | ovlPinChange (line : OvlLine) (asserted : Bool)
  /-- Expiry of a line's debounce timer (R141). -/
  | debounceExpiry (line : OvlLine)
  /-- Expiry of the recovery hold (R143). -/
  | recoveryHoldExpiry
  /-- Expiry of the classifier's write timer (R112). -/
  | writeCompletion
  /-- Each Policy Port command below is the end of its write transfer, with the payload bytes that
  arrived after the command byte, however many (R175, R176). -/
  | readChain (payload : List Byte)
  | setWindowShape (payload : List Byte)
  | setThermal (payload : List Byte)
  | setSensorCal (payload : List Byte)
  | writeClass (payload : List Byte)
  | setServiceMap (payload : List Byte)
  | writeMatcher (payload : List Byte)
  | writeStep (payload : List Byte)
  | setSequencer (payload : List Byte)
  | setTrigger (payload : List Byte)
  | startSchedule (payload : List Byte)
  | abortSchedule (payload : List Byte)
  | freeze (payload : List Byte)
  | thaw (payload : List Byte)
  | setOverload (payload : List Byte)
  | setMismatch (payload : List Byte)
  | setChain (payload : List Byte)
  | setPoolLimit (payload : List Byte)
  | setLifetime (payload : List Byte)
  | setTriggerEnable (payload : List Byte)
  | pushContext (payload : List Byte)
  | popContext (payload : List Byte)
  | peekContext (payload : List Byte)
  | readEvents (payload : List Byte)
  | clearEvents (payload : List Byte)
  | setAlertMask (payload : List Byte)
  | readStatus (payload : List Byte)
  | softReset (payload : List Byte)
  /-- A Policy Port write whose command byte is not in the table of 12.4.3 (R176). -/
  | badCommand (command : Byte) (payload : List Byte)
  /-- The command byte of a Policy Port write transfer arrives (R175). -/
  | commandByteArrival (command : Byte)
  deriving DecidableEq, Repr

end Sys2Proof
end

