-- ==== Sys2Proof/WellFormed.lean ====
section
/-! DEFINITION. Which terms of `Instr` are commands the part can meet. -/

namespace Sys2Proof

/-- The number of request field bytes of a Burst Link kind byte (R172), `none` for an unknown kind. -/
def linkFieldCount (kind : Byte) : Option Nat :=
  match kind.toNat with
  | 1 => some 12
  | 2 => some 5
  | 3 => some 0
  | 4 => some 0
  | 5 => some 0
  | _ => none

/-- The kind and length bytes open a frame that is taken as its kind (R172, R173). -/
def linkHeaderGood (kind length : Byte) : Bool :=
  linkFieldCount kind == some length.toNat

/-- The command bytes of the table of 12.4.3. -/
def policyCommandBytes : List Byte :=
  [0x10, 0x11, 0x12, 0x13, 0x14, 0x15, 0x16,
   0x20, 0x21, 0x22, 0x23, 0x24, 0x25, 0x26,
   0x30, 0x31,
   0x40, 0x41, 0x42, 0x43, 0x44, 0x45, 0x46,
   0x50, 0x51, 0x52,
   0x60, 0x61]

/-- The bytes of a frame that end before its request part is complete: no length byte yet, or a good
header with fewer request fields than it names (R173). A bad header is answered, so it is not short. -/
def requestIncomplete : List Byte → Bool
  | [] => true
  | [_] => true
  | kind :: length :: fields => linkHeaderGood kind length && decide (fields.length < length.toNat)

/-- A term is well formed when the ports can produce it: a bad frame has a header that is not good, a
short frame is incomplete, a bad command's byte is not in the table. Every other row takes any
operands: a payload of the wrong length is a command of the part, answered BAD_LENGTH (R176). -/
def Instr.wellFormed : Instr → Bool
  | .badFrame kind length => !linkHeaderGood kind length
  | .shortFrame received => requestIncomplete received
  | .badCommand command _ => !policyCommandBytes.contains command
  | .powerOn _ _ _ => true
  | .rstNAssert => true
  | .loadCompletion _ => true
  | .burstReq _ _ _ _ _ => true
  | .burstClose _ _ _ _ _ => true
  | .readNotice => true
  | .readLinkStatus => true
  | .linkReset => true
  | .lapse _ _ => true
  | .bucketExpiry => true
  | .modelStep => true
  | .conversionTimerExpiry _ => true
  | .periodBoundary => true
  | .ovlPinChange _ _ => true
  | .debounceExpiry _ => true
  | .recoveryHoldExpiry => true
  | .writeCompletion => true
  | .readChain _ => true
  | .setWindowShape _ => true
  | .setThermal _ => true
  | .setSensorCal _ => true
  | .writeClass _ => true
  | .setServiceMap _ => true
  | .writeMatcher _ => true
  | .writeStep _ => true
  | .setSequencer _ => true
  | .setTrigger _ => true
  | .startSchedule _ => true
  | .abortSchedule _ => true
  | .freeze _ => true
  | .thaw _ => true
  | .setOverload _ => true
  | .setMismatch _ => true
  | .setChain _ => true
  | .setPoolLimit _ => true
  | .setLifetime _ => true
  | .setTriggerEnable _ => true
  | .pushContext _ => true
  | .popContext _ => true
  | .peekContext _ => true
  | .readEvents _ => true
  | .clearEvents _ => true
  | .setAlertMask _ => true
  | .readStatus _ => true
  | .softReset _ => true
  | .commandByteArrival _ => true

end Sys2Proof
end

