-- ==== Sys2Proof/Decode.lean ====
section
/-! DEFINITION. What the bytes at the part's ports spell: the message of a Burst Link frame (R172, R173),
the events of a Policy Port write (R175, R176), and the decoder over the rows of spec/opcode_table.json
that give bits (none do). -/

namespace Sys2Proof

/-! ### Burst Link frames (12.1) -/

/-- The message of a kind byte with its request fields (R172, 12.4.1). -/
def linkMessage (kind : Byte) (fields : List Byte) : Option Instr :=
  let field := fun i : Nat => fields.getD i 0
  match kind.toNat with
  | 1 => some (.burstReq (field 0) (field 1) (field 2) (field 3) (Vector.ofFn fun n : Fin 8 => field (4 + n.val)))
  | 2 => some (.burstClose (field 0) (field 1) (field 2) (field 3) (field 4))
  | 3 => some .readNotice
  | 4 => some .readLinkStatus
  | 5 => some .linkReset
  | _ => none

/-- What a frame comes to, from the bytes clocked in on BL_MOSI between the assertion of BL_CS_N and its
release: the message its kind byte names once its request part is complete, whatever bytes follow during
the response part (R172); a bad frame, answered as soon as the length byte has arrived; or a short frame
(R173). -/
def linkFrame : List Byte → Instr
  | kind :: length :: bytes =>
    if linkHeaderGood kind length then
      if bytes.length < length.toNat then .shortFrame (kind :: length :: bytes)
      else (linkMessage kind (bytes.take length.toNat)).getD (.badFrame kind length)
    else .badFrame kind length
  | bytes => .shortFrame bytes

/-! ### Policy Port writes (12.2) -/

/-- The command of a command byte, with the payload bytes that came with it (12.4.3; R176, order 1). -/
def policyCommandOf (command : Byte) (payload : List Byte) : Instr :=
  match command.toNat with
  | 0x10 => .readChain payload
  | 0x11 => .setWindowShape payload
  | 0x12 => .setThermal payload
  | 0x13 => .setSensorCal payload
  | 0x14 => .writeClass payload
  | 0x15 => .setServiceMap payload
  | 0x16 => .writeMatcher payload
  | 0x20 => .writeStep payload
  | 0x21 => .setSequencer payload
  | 0x22 => .setTrigger payload
  | 0x23 => .startSchedule payload
  | 0x24 => .abortSchedule payload
  | 0x25 => .freeze payload
  | 0x26 => .thaw payload
  | 0x30 => .setOverload payload
  | 0x31 => .setMismatch payload
  | 0x40 => .setChain payload
  | 0x41 => .setPoolLimit payload
  | 0x42 => .setLifetime payload
  | 0x43 => .setTriggerEnable payload
  | 0x44 => .pushContext payload
  | 0x45 => .popContext payload
  | 0x46 => .peekContext payload
  | 0x50 => .readEvents payload
  | 0x51 => .clearEvents payload
  | 0x52 => .setAlertMask payload
  | 0x60 => .readStatus payload
  | 0x61 => .softReset payload
  | _ => .badCommand command payload

/-- The events of a write transfer to the port's address, from its data bytes: none without a command
byte, else the arrival of the command byte and, at the transfer's end, its command (R175). Every payload
byte is in the list, those beyond 32 among them, which count toward the length check. -/
def policyWrite : List Byte → List Instr
  | [] => []
  | command :: payload => [.commandByteArrival command, policyCommandOf command payload]

/-- The part acknowledges payload byte `n` of a write, counted from 0: it gathers up to 32 (R175). -/
def payloadAcknowledged (n : Nat) : Bool :=
  decide (n < 32)

/-! ### The table's words -/

/-- The table gives no row any bits (every row's "fields" is empty and none has "fixed"), so no word
spells a command: the ports' bytes above do. -/
def decodeTableWord (_nbits _w : Nat) : Option Instr :=
  none

end Sys2Proof
end

