-- ==== Sys2Proof/Machine/State.lean ====
section
/-! DEFINITION. The state of the part: every register, list, queue, counter, timer, mode and pin the
spec gives it, as plain data, block by block (0.3), and its value right after reset. -/

namespace Sys2Proof.Machine

open Sys2Proof

/-- The spec gives the part no event that stops it: every command completes, so there is no fault. -/
inductive Fault where
  deriving DecidableEq, Repr

/-- Why a command would be refused. No command of this model is. -/
inductive Refusal where
  /-- Raised by `exec` alone, for a row that has no meaning yet; safe: nothing is claimed of it. -/
  | notModelled (mnemonic : String)
  deriving DecidableEq, Repr

/-- A timer: `none` while stopped, `some t` while it runs with the period or delay of `t` µs it was
started with. How much of it has passed is not held: the expiry arrives as a command (0.3.2). -/
abbrev Timer := Option Nat

/-! ### Names -/

/-- The load state (R179, R181). -/
inductive LoadState where
  | loading
  | ready
  deriving DecidableEq, Repr

/-- The image status (12.4.5). -/
inductive ImageStatus where
  | imageUsed
  | defaultsUsed
  | inProgress
  deriving DecidableEq, Repr

/-- The limiting factors of a GRANT record (12.3). -/
inductive Factor where
  | unlimited
  | policy
  | pool
  | mismatch
  | startup
  | thermal
  | schedule
  | window
  | floor
  deriving DecidableEq, Repr

/-- The thermal states (R73). -/
inductive ThermalState where
  | normal
  | warm
  | tripped
  | unknown
  deriving DecidableEq, Repr

/-- The outcome of an input's last completed conversion; `unread` is NONE (R93). -/
inductive SensorStatus where
  | unread
  | valid
  | invalid
  deriving DecidableEq, Repr

/-- The matcher states (R108). -/
inductive MatcherState where
  | disabled
  | enabled
  | writing
  deriving DecidableEq, Repr

/-- The sequencer states (R120). -/
inductive SequencerState where
  | idle
  | starting
  | running
  | frozen
  | holding
  deriving DecidableEq, Repr

/-- The state FROZEN returns to (R120). -/
inductive RememberedState where
  | running
  | holding
  deriving DecidableEq, Repr

/-- The ramps of a program step (R117). -/
inductive Ramp where
  | hold
  | slope
  | accel
  deriving DecidableEq, Repr

/-- The supply levels; `nominal` is NONE (R142). -/
inductive SupplyLevel where
  | nominal
  | warn
  | crit
  deriving DecidableEq, Repr

/-- The mismatch states (R149). -/
inductive MismatchState where
  | clear
  | mismatched
  deriving DecidableEq, Repr

/-- The event kinds, in mask-bit order (11.1). -/
inductive EventKind where
  | overloadWarn
  | overloadCrit
  | trip
  | mismatch
  | sensorLost
  | excess
  | lapse
  | scheduleEnd
  | imageBad
  deriving DecidableEq, Repr

/-- The trigger kinds, in the order of the trigger map and of the enable mask (R119, R157). -/
inductive TriggerKind where
  | overloadCrit
  | trip
  | mismatch
  deriving DecidableEq, Repr

/-- The notice kinds (R169). -/
inductive NoticeKind where
  | scheduleStart
  | scheduleEnding
  | scheduleEnd
  | frameEnter
  | frameLeave
  | tripChange
  | poolCut
  | mismatchChange
  deriving DecidableEq, Repr

/-- The Policy Port status codes (R176). -/
inductive Status where
  | ok
  | busy
  | range
  | wrongState
  | stackFull
  | stackEmpty
  | notReady
  | badCommand
  | badLength
  deriving DecidableEq, Repr

/-- The bucket periods of R67. -/
inductive BucketPeriod where
  | ms31
  | ms62
  | ms125
  | ms250
  deriving DecidableEq, Repr

/-- The step periods of R75. -/
inductive StepPeriod where
  | ms62
  | ms125
  | ms250
  | ms500
  deriving DecidableEq, Repr

/-! ### Burst Link Port -/

/-- The Burst Link Port: the epoch and the response part of the frame last taken, header first (R172). -/
structure LinkPort where
  epoch : BitVec 4
  response : List Byte
  deriving DecidableEq, Repr

/-! ### Grant Engine and Grant Table -/

/-- The Grant Engine's four figures of a chain (R34). -/
structure EngineChain where
  issued : Nat
  reduced : Nat
  withheld : Nat
  lastFactor : Factor
  deriving DecidableEq, Repr

/-- An open-grant record (R39). `lifetime` is its running lifetime timer, in ms as fixed at opening. -/
structure OpenGrant where
  tag : Byte
  code : Nat
  power : Nat
  duration : Nat
  projected : Nat
  lifetime : Nat
  deriving DecidableEq, Repr

/-- A chain's open-grant list, oldest first, its reserved energy and its late-close counter (R38, R41, R52). -/
structure GrantChain where
  opened : List OpenGrant
  reserved : Nat
  lateCloses : Nat
  deriving DecidableEq, Repr

/-- The Grant Table (R38, R41). -/
structure GrantTable where
  chains : Vector GrantChain 4
  poolSum : Nat
  deriving DecidableEq, Repr

/-! ### Energy Window Unit -/

/-- A bucket: its energy in eu and its pinned mark (R59, R62). -/
structure Bucket where
  energy : Nat
  pinned : Bool
  deriving DecidableEq, Repr

/-- The window shape (R59). -/
structure WindowShape where
  count : Nat
  period : BucketPeriod
  deriving DecidableEq, Repr

/-- A chain's ring, window sum, residue and heat-in accumulator (R9, R59, R60, R63). -/
structure WindowChain where
  ring : List Bucket
  sum : Nat
  residue : Nat
  heatIn : Nat
  deriving DecidableEq, Repr

/-- The Energy Window Unit. `current` is the current position, the same on all four rings (R59). -/
structure WindowUnit where
  shape : WindowShape
  current : Nat
  timer : Timer
  chains : Vector WindowChain 4
  deriving DecidableEq, Repr

/-! ### Thermal Estimator -/

/-- A chain's seven coefficients (R74). -/
structure ThermalCoeffs where
  heatGain : Nat
  coolGain : Nat
  blendGain : Nat
  knee : Int
  trip : Int
  hysteresis : Nat
  slope : Nat
  deriving DecidableEq, Repr

/-- A chain's thermal record (R73). -/
structure ThermalChain where
  estimate : Int
  pinned : Bool
  state : ThermalState
  validRun : Nat
  coeffs : ThermalCoeffs
  deriving DecidableEq, Repr

/-- The board record (R73). -/
structure BoardRecord where
  temp : Int
  pinned : Bool
  onFallback : Bool
  seedPending : Bool
  deriving DecidableEq, Repr

/-- The Thermal Estimator (R73). -/
structure ThermalEstimator where
  chains : Vector ThermalChain 4
  board : BoardRecord
  fallback : Int
  period : StepPeriod
  timer : Timer
  deriving DecidableEq, Repr

/-! ### Sensor Scanner -/

/-- A sensor calibration (R93). -/
structure Calibration where
  gain : Nat
  offset : Nat
  base : Int
  deriving DecidableEq, Repr

/-- A sensor record (R93). -/
structure SensorRecord where
  cal : Calibration
  lastValue : Int
  lastPinned : Bool
  lastStatus : SensorStatus
  invalidRun : Nat
  lost : Bool
  deriving DecidableEq, Repr

/-- The in-flight conversion record: the input and the copy of its calibration (R94). -/
structure Conversion where
  input : Input
  cal : Calibration
  deriving DecidableEq, Repr

/-- The Sensor Scanner (R93). -/
structure SensorScanner where
  inputs : Vector SensorRecord 5
  rotation : Input
  inFlight : Option Conversion
  timer : Timer
  deriving DecidableEq, Repr

/-! ### Burst Classifier -/

/-- A class table entry (R104). -/
structure ClassEntry where
  floor : Nat
  exempt : Bool
  tripPass : Bool
  deriving DecidableEq, Repr

/-- What a matcher write carries: enable, mask, value and class (R108, R111). -/
structure MatcherEntry where
  enable : Bool
  mask : Descriptor
  value : Descriptor
  cls : Fin 8
  deriving DecidableEq, Repr

/-- A flexible matcher (R108). -/
structure Matcher where
  state : MatcherState
  mask : Descriptor
  value : Descriptor
  cls : Fin 8
  pendingEntry : Option MatcherEntry
  deriving DecidableEq, Repr

/-- The Burst Classifier. `service` holds the classes of kinds 0x01..0x05 in order (R106); `timer` is
the write timer (R111). -/
structure BurstClassifier where
  classes : Vector ClassEntry 8
  service : Vector (Fin 8) 5
  matchers : Vector Matcher 6
  timer : Timer
  deriving DecidableEq, Repr

/-! ### Backoff Sequencer -/

/-- A program step (R117). -/
structure ProgramStep where
  target : Nat
  dwell : Nat
  ramp : Ramp
  accel : Nat
  leap : Nat
  mask : BitVec 4
  frame : Bool
  deriving DecidableEq, Repr

/-- The sequencer settings; the period is in units of 10 ms (R118). -/
structure SequencerSettings where
  period : Nat
  breakpoint : Nat
  holdAfter : Nat
  lead : Nat
  deriving DecidableEq, Repr

/-- Run parameters, also an entry of the trigger map (R119, R120). -/
structure RunParams where
  start : Fin 24
  stop : Fin 24
  repeats : Nat
  deriving DecidableEq, Repr

/-- The Backoff Sequencer: program, settings, trigger map and run state (R117..R120). -/
structure BackoffSequencer where
  program : Vector ProgramStep 24
  settings : SequencerSettings
  triggers : Vector RunParams 3
  state : SequencerState
  remembered : Option RememberedState
  run : RunParams
  step : Fin 24
  b : Nat
  b0 : Nat
  k : Nat
  runCount : Nat
  repeatsLeft : Nat
  increment : Nat
  holdCount : Nat
  pendingStart : Option RunParams
  frame : Bool
  timer : Timer
  deriving DecidableEq, Repr

/-! ### Supply Pool Monitor and Mismatch Monitor -/

/-- An overload line: the pin's level, the taken level and the debounce timer; `true` is asserted (R141). -/
structure LineMonitor where
  pin : Bool
  taken : Bool
  debounce : Timer
  deriving DecidableEq, Repr

/-- The overload settings; the recovery hold is in units of 10 ms, the debounce D in units of 50 µs (R147). -/
structure OverloadSettings where
  warnShift : Nat
  critLimit : Nat
  hold : Nat
  debounce : Nat
  deriving DecidableEq, Repr

/-- The Supply Pool Monitor; `limit` is the effective pool limit E (R141..R145). -/
structure SupplyPool where
  warnLine : LineMonitor
  critLine : LineMonitor
  settings : OverloadSettings
  applied : SupplyLevel
  hold : Timer
  limit : Nat
  deriving DecidableEq, Repr

/-- The mismatch settings (R149). -/
structure MismatchSettings where
  threshold : Nat
  runCount : Nat
  release : Nat
  cap : Nat
  deriving DecidableEq, Repr

/-- A chain's mismatch record (R149). -/
structure MismatchChain where
  state : MismatchState
  overRun : Nat
  underRun : Nat
  deriving DecidableEq, Repr

/-- The Mismatch Monitor (R149). -/
structure MismatchMonitor where
  settings : MismatchSettings
  chains : Vector MismatchChain 4
  deriving DecidableEq, Repr

/-! ### Context Store -/

/-- A chain's fields of a policy context (R153). -/
structure ChainPolicy where
  enabled : Bool
  ceiling : Nat
  minimum : Nat
  windowLimit : Nat
  deriving DecidableEq, Repr

/-- A policy context (R153); the lifetime is in ms, the trigger enables are bits 0x01 OVERLOAD_CRIT,
0x02 TRIP, 0x04 MISMATCH. -/
structure Context where
  chains : Vector ChainPolicy 4
  poolLimit : Nat
  lifetime : Nat
  triggers : BitVec 3
  deriving DecidableEq, Repr

/-- The Context Store: the current context and the stack, top first (R153, R158). -/
structure ContextStore where
  current : Context
  stack : List Context
  deriving DecidableEq, Repr

/-! ### Event Latch and Notice Queue -/

/-- An event record (R164). -/
structure EventRecord where
  raised : Bool
  mask : BitVec 5
  count : Nat
  deriving DecidableEq, Repr

/-- The Event Latch: nine records in mask-bit order, the alert mask and the trigger latch (R164..R166). -/
structure EventLatch where
  records : Vector EventRecord 9
  alertMask : BitVec 9
  latch : Option TriggerKind
  deriving DecidableEq, Repr

/-- A modem notice (R169). -/
structure Notice where
  kind : NoticeKind
  mask : BitVec 4
  value : BitVec 16
  deriving DecidableEq, Repr

/-! ### Policy Port and Image Loader -/

/-- The Policy Port's response buffer: a status and the data; the length byte is the data's length (R175). -/
structure PolicyResponse where
  status : Status
  data : List Byte
  deriving DecidableEq, Repr

/-- The Policy Port. The in-flight command marker is set while `inFlight` holds the command byte of a
write transfer that has not ended, and the end of the write takes the command of that byte; `address` is
the target address taken from ADDR_SEL (R175). -/
structure PolicyPort where
  inFlight : Option Byte
  response : PolicyResponse
  address : BitVec 7
  deriving DecidableEq, Repr

/-- The contents of the start-up image, or the built-in defaults in its place, clamped as applied (R178). -/
structure Contents where
  sensors : Vector Calibration 5
  coeffs : Vector ThermalCoeffs 4
  fallback : Int
  stepPeriod : StepPeriod
  classes : Vector ClassEntry 8
  service : Vector (Fin 8) 5
  matchers : Vector MatcherEntry 6
  program : Vector ProgramStep 24
  sequencer : SequencerSettings
  triggers : Vector RunParams 3
  context : Context
  shape : WindowShape
  overload : OverloadSettings
  mismatch : MismatchSettings
  alertMask : BitVec 9
  deriving DecidableEq, Repr

/-- The Image Loader (R179, R181). -/
structure ImageLoader where
  load : LoadState
  image : ImageStatus
  retained : Option Contents
  deriving DecidableEq, Repr

/-- The state of the part. `pending` is the queue of commands that wait, first in, first out;
`rstHeld` is the RST_N line (`true` while asserted, R179); `freeCount` is the model's own counter, the
argument of the free value of Config.lean. -/
structure State where
  pending : List Instr
  rstHeld : Bool
  link : LinkPort
  engine : Vector EngineChain 4
  grants : GrantTable
  windows : WindowUnit
  thermal : ThermalEstimator
  scanner : SensorScanner
  classifier : BurstClassifier
  sequencer : BackoffSequencer
  supply : SupplyPool
  mismatch : MismatchMonitor
  context : ContextStore
  events : EventLatch
  notices : List Notice
  policy : PolicyPort
  loader : ImageLoader
  freeCount : Nat
  deriving DecidableEq, Repr

/-! ### One named update per field -/

def State.withPending (s : State) (x : List Instr) : State :=
  { s with pending := x }

def State.withRstHeld (s : State) (x : Bool) : State :=
  { s with rstHeld := x }

def State.withLink (s : State) (x : LinkPort) : State :=
  { s with link := x }

def State.withEngine (s : State) (x : Vector EngineChain 4) : State :=
  { s with engine := x }

def State.withGrants (s : State) (x : GrantTable) : State :=
  { s with grants := x }

def State.withWindows (s : State) (x : WindowUnit) : State :=
  { s with windows := x }

def State.withThermal (s : State) (x : ThermalEstimator) : State :=
  { s with thermal := x }

def State.withScanner (s : State) (x : SensorScanner) : State :=
  { s with scanner := x }

def State.withClassifier (s : State) (x : BurstClassifier) : State :=
  { s with classifier := x }

def State.withSequencer (s : State) (x : BackoffSequencer) : State :=
  { s with sequencer := x }

def State.withSupply (s : State) (x : SupplyPool) : State :=
  { s with supply := x }

def State.withMismatch (s : State) (x : MismatchMonitor) : State :=
  { s with mismatch := x }

def State.withContext (s : State) (x : ContextStore) : State :=
  { s with context := x }

def State.withEvents (s : State) (x : EventLatch) : State :=
  { s with events := x }

def State.withNotices (s : State) (x : List Notice) : State :=
  { s with notices := x }

def State.withPolicy (s : State) (x : PolicyPort) : State :=
  { s with policy := x }

def State.withLoader (s : State) (x : ImageLoader) : State :=
  { s with loader := x }

def State.withFreeCount (s : State) (x : Nat) : State :=
  { s with freeCount := x }

/-! ### Power-on values -/

/-- The built-in calibration (R101). -/
def Calibration.builtIn : Calibration :=
  ⟨3040, 0, -640⟩

/-- The built-in coefficients (R74). -/
def ThermalCoeffs.builtIn : ThermalCoeffs :=
  ⟨10, 4, 4, 720, 1360, 80, 64⟩

/-- The built-in class entry: no floor, no flags (R114). -/
def ClassEntry.builtIn : ClassEntry :=
  ⟨0, false, false⟩

/-- The built-in matcher contents (R114). -/
def MatcherEntry.builtIn : MatcherEntry :=
  ⟨false, Vector.replicate 8 0, Vector.replicate 8 0, 7⟩

/-- The built-in program step (R117). -/
def ProgramStep.builtIn : ProgramStep :=
  ⟨0, 1, .hold, 0, 0, 0, false⟩

/-- The built-in sequencer settings (R118). -/
def SequencerSettings.builtIn : SequencerSettings :=
  ⟨50, 0, 0, 0⟩

/-- The built-in trigger map entry, and the run parameters at power-on (R119). -/
def RunParams.builtIn : RunParams :=
  ⟨0, 0, 0⟩

/-- The built-in context (R163). -/
def Context.builtIn : Context where
  chains := Vector.replicate 4 ⟨true, 236, 80, 415488000⟩
  poolLimit := 1200000
  lifetime := 6
  triggers := 0

/-- The built-in window shape (R70). -/
def WindowShape.builtIn : WindowShape :=
  ⟨32, .ms125⟩

/-- The built-in overload settings (R148). -/
def OverloadSettings.builtIn : OverloadSettings :=
  ⟨1, 400000, 200, 4⟩

/-- The built-in mismatch settings (R149). -/
def MismatchSettings.builtIn : MismatchSettings :=
  ⟨10, 3, 2, 212⟩

/-- The built-in alert mask (R165). -/
def builtInAlertMask : BitVec 9 :=
  0x19F

/-- The built-in defaults of 13.4. -/
def Contents.builtIn : Contents where
  sensors := Vector.replicate 5 Calibration.builtIn
  coeffs := Vector.replicate 4 ThermalCoeffs.builtIn
  fallback := 720
  stepPeriod := .ms250
  classes := Vector.replicate 8 ClassEntry.builtIn
  service := Vector.replicate 5 7
  matchers := Vector.replicate 6 MatcherEntry.builtIn
  program := Vector.replicate 24 ProgramStep.builtIn
  sequencer := SequencerSettings.builtIn
  triggers := Vector.replicate 3 RunParams.builtIn
  context := Context.builtIn
  shape := WindowShape.builtIn
  overload := OverloadSettings.builtIn
  mismatch := MismatchSettings.builtIn
  alertMask := builtInAlertMask

/-- The Grant Engine's figures of a chain at power-on (R34). -/
def EngineChain.zero : EngineChain :=
  ⟨0, 0, 0, .unlimited⟩

/-- A chain of the Grant Table at power-on (R55). -/
def GrantChain.zero : GrantChain :=
  ⟨[], 0, 0⟩

/-- A chain's thermal record at power-on (R89). -/
def ThermalChain.powerOn : ThermalChain :=
  ⟨400, false, .normal, 0, ThermalCoeffs.builtIn⟩

/-- A sensor record at power-on (R101). -/
def SensorRecord.powerOn : SensorRecord :=
  ⟨Calibration.builtIn, 400, false, .unread, 0, false⟩

/-- A matcher at power-on (R114). -/
def Matcher.powerOn : Matcher :=
  ⟨.disabled, Vector.replicate 8 0, Vector.replicate 8 0, 7, none⟩

/-- The Energy Window Unit at power-on (R70), but for its timer, which starts at power-on. -/
def WindowUnit.powerOn (timer : Timer) : WindowUnit where
  shape := WindowShape.builtIn
  current := 0
  timer := timer
  chains := Vector.replicate 4 ⟨List.replicate 32 ⟨0, false⟩, 0, 0, 0⟩

/-- The Thermal Estimator at power-on (R88, R89). -/
def ThermalEstimator.powerOn : ThermalEstimator where
  chains := Vector.replicate 4 ThermalChain.powerOn
  board := ⟨400, false, false, true⟩
  fallback := 720
  period := .ms250
  timer := none

/-- The Sensor Scanner at power-on (R101). -/
def SensorScanner.powerOn : SensorScanner where
  inputs := Vector.replicate 5 SensorRecord.powerOn
  rotation := 0
  inFlight := none
  timer := none

/-- The Burst Classifier at power-on (R114). -/
def BurstClassifier.powerOn : BurstClassifier where
  classes := Vector.replicate 8 ClassEntry.builtIn
  service := Vector.replicate 5 7
  matchers := Vector.replicate 6 Matcher.powerOn
  timer := none

/-- The Backoff Sequencer at power-on (R138). -/
def BackoffSequencer.powerOn : BackoffSequencer where
  program := Vector.replicate 24 ProgramStep.builtIn
  settings := SequencerSettings.builtIn
  triggers := Vector.replicate 3 RunParams.builtIn
  state := .idle
  remembered := none
  run := RunParams.builtIn
  step := 0
  b := 0
  b0 := 0
  k := 0
  runCount := 0
  repeatsLeft := 0
  increment := 0
  holdCount := 0
  pendingStart := none
  frame := false
  timer := none

/-- The Supply Pool Monitor at power-on, before it samples its pins, which stand at these levels (R148). -/
def SupplyPool.powerOn (warnPin critPin : Bool) : SupplyPool where
  warnLine := ⟨warnPin, false, none⟩
  critLine := ⟨critPin, false, none⟩
  settings := OverloadSettings.builtIn
  applied := .nominal
  hold := none
  limit := 1200000

/-- The Mismatch Monitor at power-on (R152). -/
def MismatchMonitor.powerOn : MismatchMonitor where
  settings := MismatchSettings.builtIn
  chains := Vector.replicate 4 ⟨.clear, 0, 0⟩

/-- The Event Latch at power-on (R168). -/
def EventLatch.powerOn : EventLatch where
  records := Vector.replicate 9 ⟨false, 0, 0⟩
  alertMask := builtInAlertMask
  latch := none

/-- The target address ADDR_SEL selects: 0x36 when low, 0x37 when high (R175). -/
def policyAddress (addrSel : Bool) : BitVec 7 :=
  if addrSel then 0x37 else 0x36

/-- Every block in its power-on state (R179), before the overload pins are sampled. `held` says whether
RST_N is still asserted, `timer` is the bucket timer. The pin levels and the address come from outside;
the queue of waiting commands and the free-value counter are the model's own and stand. -/
def State.powerOn (held : Bool) (timer : Timer) (warnPin critPin : Bool) (address : BitVec 7)
    (s : State) : State where
  pending := s.pending
  rstHeld := held
  link := ⟨0, []⟩
  engine := Vector.replicate 4 EngineChain.zero
  grants := ⟨Vector.replicate 4 GrantChain.zero, 0⟩
  windows := WindowUnit.powerOn timer
  thermal := ThermalEstimator.powerOn
  scanner := SensorScanner.powerOn
  classifier := BurstClassifier.powerOn
  sequencer := BackoffSequencer.powerOn
  supply := SupplyPool.powerOn warnPin critPin
  mismatch := MismatchMonitor.powerOn
  context := ⟨Context.builtIn, []⟩
  events := EventLatch.powerOn
  notices := []
  policy := ⟨none, ⟨.ok, []⟩, address⟩
  loader := ⟨.loading, .inProgress, none⟩
  freeCount := s.freeCount

/-- The part right after power-on: RST_N released, the load begun, the bucket timer running with
125 ms, no command waiting. The pin levels are the model's choice (notes/assumptions/1.md): both
overload lines deasserted, so that sampling them changes nothing, and ADDR_SEL low. -/
def State.reset : State where
  pending := []
  rstHeld := false
  link := ⟨0, []⟩
  engine := Vector.replicate 4 EngineChain.zero
  grants := ⟨Vector.replicate 4 GrantChain.zero, 0⟩
  windows := WindowUnit.powerOn (some 125000)
  thermal := ThermalEstimator.powerOn
  scanner := SensorScanner.powerOn
  classifier := BurstClassifier.powerOn
  sequencer := BackoffSequencer.powerOn
  supply := SupplyPool.powerOn false false
  mismatch := MismatchMonitor.powerOn
  context := ⟨Context.builtIn, []⟩
  events := EventLatch.powerOn
  notices := []
  policy := ⟨none, ⟨.ok, []⟩, policyAddress false⟩
  loader := ⟨.loading, .inProgress, none⟩
  freeCount := 0

end Sys2Proof.Machine
end

