-- ==== Sys2Proof/Machine/Arith.lean ====
section
/-! DEFINITION. Chapter 1: power codes, linear power, the inverse lookup, durations, energy, temperatures
and the rounding conventions; and the byte and mask helpers the layouts use. -/

namespace Sys2Proof.Machine

open Sys2Proof

/-! ### Power codes -/

/-- The table M of R3. -/
def mTable : List Nat :=
  [1024, 1085, 1149, 1217, 1289, 1366, 1446, 1532, 1623, 1719, 1821, 1929]

/-- The linear power L(p) of code p, in pu (R4). -/
def linearPower (p : Nat) : Nat :=
  (mTable.getD (p % 12) 0 * 2 ^ (p / 12)) / 2 ^ 10

/-- The largest code at or below `p` whose linear power is at most `x`. -/
def largestCodeUpTo (x : Int) : Nat → Option Nat
  | 0 => if (linearPower 0 : Int) ≤ x then some 0 else none
  | p + 1 => if (linearPower (p + 1) : Int) ≤ x then some (p + 1) else largestCodeUpTo x p

/-- The inverse lookup Linv(x): the largest code in 0..255 with L(p) ≤ x, or none (R6). -/
def linv (x : Int) : Option Nat :=
  largestCodeUpTo x 255

/-- A code less a backoff, at 0 when negative (R2). -/
def lessBackoff (p b : Nat) : Nat :=
  p - b

/-- The minimum of two codes either of which may be none: none if either is (R2). -/
def minCode : Option Nat → Option Nat → Option Nat
  | some a, some b => some (min a b)
  | _, _ => none

/-- A code ranks below a figure; none ranks below every code (R2). -/
def codeBelow : Option Nat → Nat → Bool
  | none, _ => true
  | some a, n => decide (a < n)

/-! ### Durations and energy -/

/-- A duration field above 64 is taken as 64 (R7). -/
def clampDuration (d : Nat) : Nat :=
  min d 64

/-- The projected energy of code p for duration d (R10). -/
def projectedEnergy (p d : Nat) : Nat :=
  (linearPower p * d) / 64

/-- The largest 32-bit figure, where a bucket and a heat-in accumulator saturate (R14). -/
def max32 : Nat :=
  4294967295

/-- A 16-bit saturating counter counts one (R14, R34, R52). -/
def count16 (n : Nat) : Nat :=
  if n < 65535 then n + 1 else n

/-- An 8-bit saturating counter counts one (R14, R164). -/
def count8 (n : Nat) : Nat :=
  if n < 255 then n + 1 else n

/-! ### Temperature and rounding -/

/-- A figure shifted right by n bits: divided by 2^n, rounded toward minus infinity (R13). -/
def shiftRight (x : Int) (n : Nat) : Int :=
  Int.fdiv x ((2 ^ n : Nat) : Int)

/-- A figure clamped into a range. -/
def clampInt (lo hi x : Int) : Int :=
  max lo (min hi x)

/-- A temperature clamped to −640..2400 (R11). -/
def clampTemp (x : Int) : Int :=
  clampInt (-640) 2400 x

/-- The pinned flag of a computation: whether the clamp changed its result (R12). -/
def pinnedBy (x : Int) : Bool :=
  decide (clampTemp x ≠ x)

/-! ### Bytes -/

/-- The figure a byte carries in a payload, 0 past its end. -/
def byteAt (p : List Byte) (i : Nat) : Nat :=
  (p.getD i 0).toNat

/-- An unsigned field of `n` bytes, most significant first (12, opening). -/
def fieldAt (p : List Byte) (i : Nat) : Nat → Nat
  | 0 => 0
  | n + 1 => fieldAt p i n * 256 + byteAt p (i + n)

/-- A signed field of two bytes, two's complement (12, opening). -/
def signedAt (p : List Byte) (i : Nat) : Int :=
  (BitVec.ofNat 16 (fieldAt p i 2)).toInt

/-- The `n` low bytes of a figure, most significant first. -/
def toBytes (v : Nat) : Nat → List Byte
  | 0 => []
  | n + 1 => BitVec.ofNat 8 (v / 256 ^ n) :: toBytes v n

/-- A signed figure in two bytes, two's complement. -/
def toSignedBytes (v : Int) : List Byte :=
  toBytes (BitVec.ofInt 16 v).toNat 2

/-- One byte of a figure. -/
def toByte (v : Nat) : Byte :=
  BitVec.ofNat 8 v

/-- A flag at the weight a layout gives it. -/
def flagWeight (b : Bool) (weight : Nat) : Nat :=
  if b then weight else 0

/-! ### Chains and masks -/

/-- The chains, in order. -/
def allChains : List Chain :=
  [0, 1, 2, 3]

/-- The chain a chain byte names, if it is at most 3 (R16, R43). -/
def chainOf (b : Byte) : Option Chain :=
  if h : b.toNat < 4 then some ⟨b.toNat, h⟩ else none

/-- The mask with the bit of one chain (R169). -/
def chainBit (c : Chain) : BitVec 4 :=
  1#4 <<< c.val

/-- The mask of the chains that meet a test, bit c for chain c. -/
def maskOf (test : Chain → Bool) : BitVec 4 :=
  BitVec.ofNat 4 (flagWeight (test 0) 1 + flagWeight (test 1) 2 + flagWeight (test 2) 4 + flagWeight (test 3) 8)

/-- A notice mask as event chain bits (R164). -/
def eventMask (m : BitVec 4) : BitVec 5 :=
  m.zeroExtend 5

end Sys2Proof.Machine
end

