-- ==== Sys2Proof/Machine/Flags.lean ====
section
/-! DEFINITION. Figures and lines formed from the state and held nowhere: output lines, masks, states
the blocks give one another. -/

namespace Sys2Proof.Machine

open Sys2Proof

/-! ### Codes of the names (12.3, R176) -/

/-- The place of a kind in mask-bit order (11.1). -/
def EventKind.index : EventKind → Fin 9
  | .overloadWarn => 0
  | .overloadCrit => 1
  | .trip => 2
  | .mismatch => 3
  | .sensorLost => 4
  | .excess => 5
  | .lapse => 6
  | .scheduleEnd => 7
  | .imageBad => 8

/-- The place of a trigger in the trigger map and in the enable mask (R119, R157). -/
def TriggerKind.index : TriggerKind → Fin 3
  | .overloadCrit => 0
  | .trip => 1
  | .mismatch => 2

/-- The event kind a trigger belongs to (R166). -/
def TriggerKind.event : TriggerKind → EventKind
  | .overloadCrit => .overloadCrit
  | .trip => .trip
  | .mismatch => .mismatch

/-- The code of a limiting factor. -/
def Factor.code : Factor → Nat
  | .unlimited => 0
  | .policy => 1
  | .pool => 2
  | .mismatch => 3
  | .startup => 4
  | .thermal => 5
  | .schedule => 6
  | .window => 7
  | .floor => 8

/-- The code of a thermal state. -/
def ThermalState.code : ThermalState → Nat
  | .normal => 0
  | .warm => 1
  | .tripped => 2
  | .unknown => 3

/-- The code of a sensor status. -/
def SensorStatus.code : SensorStatus → Nat
  | .unread => 0
  | .valid => 1
  | .invalid => 2

/-- The code of a matcher state. -/
def MatcherState.code : MatcherState → Nat
  | .disabled => 0
  | .enabled => 1
  | .writing => 2

/-- The code of a sequencer state. -/
def SequencerState.code : SequencerState → Nat
  | .idle => 0
  | .starting => 1
  | .running => 2
  | .frozen => 3
  | .holding => 4

/-- The remembered state as READ_STATUS gives it: 0x00 while none is held (R140). -/
def rememberedCode : Option RememberedState → Nat
  | none => 0
  | some .running => 2
  | some .holding => 4

/-- The code, and the rank, of a supply level (R142, 12.3). -/
def SupplyLevel.code : SupplyLevel → Nat
  | .nominal => 0
  | .warn => 1
  | .crit => 2

/-- The code of a mismatch state (12.4.5). -/
def MismatchState.code : MismatchState → Nat
  | .clear => 0
  | .mismatched => 1

/-- The code of a notice kind. -/
def NoticeKind.code : NoticeKind → Nat
  | .scheduleStart => 1
  | .scheduleEnding => 2
  | .scheduleEnd => 3
  | .frameEnter => 4
  | .frameLeave => 5
  | .tripChange => 6
  | .poolCut => 7
  | .mismatchChange => 8

/-- The code of a Policy Port status (R176). -/
def Status.code : Status → Nat
  | .ok => 0
  | .busy => 1
  | .range => 2
  | .wrongState => 3
  | .stackFull => 4
  | .stackEmpty => 5
  | .notReady => 6
  | .badCommand => 7
  | .badLength => 8

/-- The code of the trigger latch (12.4.4). -/
def latchCode : Option TriggerKind → Nat
  | none => 0
  | some .overloadCrit => 1
  | some .trip => 2
  | some .mismatch => 3

/-- The code of the load state (12.4.5). -/
def LoadState.code : LoadState → Nat
  | .loading => 0
  | .ready => 1

/-- The code of the image status (12.4.5). -/
def ImageStatus.code : ImageStatus → Nat
  | .imageUsed => 0
  | .defaultsUsed => 1
  | .inProgress => 2

/-! ### Timer lengths, in µs -/

/-- A bucket period (R67). -/
def BucketPeriod.micros : BucketPeriod → Nat
  | .ms31 => 31250
  | .ms62 => 62500
  | .ms125 => 125000
  | .ms250 => 250000

/-- A step period (R75). -/
def StepPeriod.micros : StepPeriod → Nat
  | .ms62 => 62500
  | .ms125 => 125000
  | .ms250 => 250000
  | .ms500 => 500000

/-- The conversion timer's period of 2 ms (R94). -/
def conversionMicros : Nat := 2000

/-- The matcher write time of 1 ms (R111). -/
def matcherWriteMicros : Nat := 1000

/-- The sequencer's period P_s (R118). -/
def SequencerSettings.micros (q : SequencerSettings) : Nat :=
  q.period * 10000

/-- The recovery hold H (R143). -/
def OverloadSettings.holdMicros (o : OverloadSettings) : Nat :=
  o.hold * 10000

/-- The debounce time D × 50 µs (R141). -/
def OverloadSettings.debounceMicros (o : OverloadSettings) : Nat :=
  o.debounce * 50

/-! ### The part -/

/-- The part is LOADING (R179). -/
def State.isLoading (s : State) : Bool :=
  s.loader.load == .loading

/-- The defaults were used at load (R181). -/
def State.onDefaults (s : State) : Bool :=
  s.loader.image == .defaultsUsed

/-- The retained contents; the built-in defaults where none are held (R181). -/
def State.retainedContents (s : State) : Contents :=
  s.loader.retained.getD Contents.builtIn

/-! ### Output lines -/

/-- A kind's record is set and its bit is set in the alert mask (R165). -/
def EventLatch.alerts (e : EventLatch) (i : Fin 9) : Bool :=
  e.records[i].raised && e.alertMask.getLsbD i.val

/-- ALERT_N is asserted while some enabled kind is set (R165). -/
def State.alertAsserted (s : State) : Bool :=
  (List.finRange 9).any s.events.alerts

/-- NOTE_N is asserted while the Notice Queue holds a notice (R169). -/
def State.noteAsserted (s : State) : Bool :=
  !s.notices.isEmpty

/-! ### Energy windows -/

/-- The bucket-pinned flag: some bucket of the ring carries the mark (R62). -/
def WindowChain.bucketPinned (w : WindowChain) : Bool :=
  w.ring.any (·.pinned)

/-- The remaining energy R_c, at 0 when negative (R23, R66). -/
def State.remaining (s : State) (c : Chain) : Nat :=
  s.context.current.chains[c].windowLimit - (s.windows.chains[c].sum + s.grants.chains[c].reserved)

/-! ### Thermal -/

/-- The thermal backoff b_th (R84). -/
def ThermalChain.backoff (t : ThermalChain) : Nat :=
  let b := (clampInt 0 127 (shiftRight ((t.estimate - t.coeffs.knee) * t.coeffs.slope) 8)).toNat
  match t.state with
  | .normal => 0
  | .warm => b
  | .tripped => b
  | .unknown => 127

/-- The chain is TRIPPED. -/
def ThermalEstimator.isTripped (t : ThermalEstimator) (c : Chain) : Bool :=
  t.chains[c].state == .tripped

/-- The mask of all chains in TRIPPED (R85). -/
def ThermalEstimator.trippedMask (t : ThermalEstimator) : BitVec 4 :=
  maskOf t.isTripped

/-- The knee and trip test of a chain that is not TRIPPED (R83). -/
def kneeTripTest (k : ThermalCoeffs) (t : Int) : ThermalState :=
  if t < k.knee then .normal else if t < k.trip then .warm else .tripped

/-- The state re-evaluation of R83; a chain in UNKNOWN stays UNKNOWN. -/
def reevaluated (k : ThermalCoeffs) (t : Int) : ThermalState → ThermalState
  | .normal => kneeTripTest k t
  | .warm => kneeTripTest k t
  | .tripped =>
    if k.trip - k.hysteresis ≤ t then .tripped else if k.knee ≤ t then .warm else .normal
  | .unknown => .unknown

/-! ### Sequencer -/

/-- The step in force. -/
def BackoffSequencer.current (q : BackoffSequencer) : ProgramStep :=
  q.program[q.step]

/-- The schedule backoff and the chains it applies to, as the Grant Engine reads them (R22, R134). -/
def BackoffSequencer.given (q : BackoffSequencer) : Nat × BitVec 4 :=
  match q.state with
  | .running => (q.b, q.current.mask)
  | .frozen => (q.b, q.current.mask)
  | .holding => (q.b, q.current.mask)
  | .idle => (0, 0)
  | .starting => (0, 0)

/-- The frame is on while the current step carries its flag in RUNNING or FROZEN (R125). -/
def BackoffSequencer.frameDue (q : BackoffSequencer) : Bool :=
  q.current.frame && (q.state == .running || q.state == .frozen)

/-- A step index lies in a run's range, which wraps from 23 to 0 (R120). -/
def RunParams.covers (r : RunParams) (i : Fin 24) : Bool :=
  decide ((i - r.start).val ≤ (r.stop - r.start).val)

/-- The sum of the dwells of `n` steps of the program from step `i` on, in run order. -/
def dwellsFrom (program : Vector ProgramStep 24) (i : Fin 24) : Nat → Nat
  | 0 => 0
  | n + 1 => program[i].dwell + dwellsFrom program (i + 1) n

/-- The run length F (R120). -/
def BackoffSequencer.runLength (q : BackoffSequencer) : Nat :=
  dwellsFrom q.program q.run.start ((q.run.stop - q.run.start).val + 1)

/-- The remaining figure N of the run (R126). -/
def BackoffSequencer.remaining (q : BackoffSequencer) : Nat :=
  let n := (q.current.dwell - q.k) + dwellsFrom q.program (q.step + 1) (q.run.stop - q.step).val
    + q.runLength * q.repeatsLeft
  if q.settings.breakpoint = 0 then n else min n (q.settings.breakpoint - q.runCount)

/-! ### Supply pool and mismatch -/

/-- The target level of the two taken levels (R142). -/
def SupplyPool.target (p : SupplyPool) : SupplyLevel :=
  if p.critLine.taken then .crit else if p.warnLine.taken then .warn else .nominal

/-- The effective pool limit E of an applied level and a pool limit (R145). -/
def effectiveLimit (level : SupplyLevel) (poolLimit : Nat) (o : OverloadSettings) : Nat :=
  match level with
  | .nominal => poolLimit
  | .warn => poolLimit / 2 ^ o.warnShift
  | .crit => min o.critLimit poolLimit

/-- The chains whose open-grant list is not empty (R146). -/
def GrantTable.openMask (g : GrantTable) : BitVec 4 :=
  maskOf fun c => !g.chains[c].opened.isEmpty

/-- The mask of all chains MISMATCHED (R151). -/
def MismatchMonitor.mismatchedMask (m : MismatchMonitor) : BitVec 4 :=
  maskOf fun c => m.chains[c].state == .mismatched

/-- The release threshold max(Th − Hr, 1) (R150). -/
def MismatchSettings.releaseThreshold (m : MismatchSettings) : Nat :=
  max (m.threshold - m.release) 1

/-! ### Classifier -/

/-- Some matcher is WRITING (R111). -/
def BurstClassifier.writing (b : BurstClassifier) : Bool :=
  b.matchers.toList.any (·.state == .writing)

/-- A matcher takes part and its mask and value fit the descriptor (R108). -/
def Matcher.matchesBurst (m : Matcher) (d : Descriptor) : Bool :=
  m.state == .enabled && decide (∀ n : Fin 8, d[n] &&& m.mask[n] = m.value[n] &&& m.mask[n])

end Sys2Proof.Machine
end

