-- ==== Sys2Proof/Machine/Operands.lean ====
section
/-! DEFINITION. The operand forms: the payloads of the Policy Port commands and of the image's sections
(12.4.3, R178), clamped and checked. `none` stands for a payload its command refuses with RANGE. -/

namespace Sys2Proof.Machine

open Sys2Proof

/-- A figure as an index below `n`, if it is one. -/
def indexBelow (n v : Nat) : Option (Fin n) :=
  if h : v < n then some ⟨v, h⟩ else none

/-- Eight payload bytes from position `i` on, in descriptor byte order (R111). -/
def descriptorAt (p : List Byte) (i : Nat) : Descriptor :=
  Vector.ofFn fun n : Fin 8 => p.getD (i + n.val) 0

/-- The bucket period of a selector (R67). -/
def bucketPeriodOf (v : Nat) : Option BucketPeriod :=
  match v with
  | 0 => some .ms31
  | 1 => some .ms62
  | 2 => some .ms125
  | 3 => some .ms250
  | _ => none

/-- The step period of a selector (R75). -/
def stepPeriodOf (v : Nat) : Option StepPeriod :=
  match v with
  | 0 => some .ms62
  | 1 => some .ms125
  | 2 => some .ms250
  | 3 => some .ms500
  | _ => none

/-- The ramp of a payload byte (R121). -/
def rampOf (v : Nat) : Option Ramp :=
  match v with
  | 0 => some .hold
  | 1 => some .slope
  | 2 => some .accel
  | _ => none

/-- READ_CHAIN: chain and clear flag (R36). -/
def parseReadChain (p : List Byte) : Option (Chain × Bool) :=
  match indexBelow 4 (byteAt p 0) with
  | none => none
  | some c => if byteAt p 1 ≤ 1 then some (c, byteAt p 1 == 1) else none

/-- SET_WINDOW_SHAPE: bucket count and period selector (R67). -/
def parseWindowShape (p : List Byte) : Option WindowShape :=
  if 8 ≤ byteAt p 0 ∧ byteAt p 0 ≤ 32 then
    (bucketPeriodOf (byteAt p 1)).map fun period => ⟨byteAt p 0, period⟩
  else none

/-- The fields of SET_THERMAL, clamped (R75). -/
structure ThermalPayload where
  chain : Chain
  coeffs : ThermalCoeffs
  fallback : Int
  period : StepPeriod
  deriving DecidableEq, Repr

/-- The coefficients of a SET_THERMAL payload with R75's clamps. -/
def thermalCoeffsOf (p : List Byte) : ThermalCoeffs where
  heatGain := fieldAt p 1 2
  coolGain := byteAt p 3
  blendGain := min (byteAt p 4) 16
  slope := byteAt p 5
  knee := clampTemp (signedAt p 6)
  trip := clampTemp (signedAt p 8)
  hysteresis := min (fieldAt p 10 2) 640

/-- SET_THERMAL: clamped, then checked (R75). -/
def parseThermal (p : List Byte) : Option ThermalPayload :=
  match indexBelow 4 (byteAt p 0), stepPeriodOf (byteAt p 14) with
  | some c, some period =>
    if (thermalCoeffsOf p).knee < (thermalCoeffsOf p).trip then
      some ⟨c, thermalCoeffsOf p, clampTemp (signedAt p 12), period⟩
    else none
  | _, _ => none

/-- SET_SENSOR_CAL: input and calibration, clamped (R99). -/
def parseSensorCal (p : List Byte) : Option (Input × Calibration) :=
  (indexBelow 5 (byteAt p 0)).map fun i =>
    (i, ⟨fieldAt p 1 2, min (fieldAt p 3 2) 4095, clampTemp (signedAt p 5)⟩)

/-- WRITE_CLASS: class, floor and flags (R105). -/
def parseClass (p : List Byte) : Option (Fin 8 × ClassEntry) :=
  match indexBelow 8 (byteAt p 0) with
  | none => none
  | some k =>
    if byteAt p 2 ≤ 3 then
      some (k, ⟨byteAt p 1, (p.getD 2 0).getLsbD 0, (p.getD 2 0).getLsbD 1⟩)
    else none

/-- SET_SERVICE_MAP: the classes of the five kinds (R107). -/
def parseServiceMap (p : List Byte) : Option (Vector (Fin 8) 5) :=
  match indexBelow 8 (byteAt p 0), indexBelow 8 (byteAt p 1), indexBelow 8 (byteAt p 2),
      indexBelow 8 (byteAt p 3), indexBelow 8 (byteAt p 4) with
  | some a, some b, some c, some d, some e => some #v[a, b, c, d, e]
  | _, _, _, _, _ => none

/-- WRITE_MATCHER: index and entry (R111, orders 2 to 4). -/
def parseMatcher (p : List Byte) : Option (Fin 6 × MatcherEntry) :=
  match indexBelow 6 (byteAt p 0), indexBelow 8 (byteAt p 18) with
  | some i, some cls =>
    if byteAt p 1 ≤ 1 then some (i, ⟨byteAt p 1 == 1, descriptorAt p 2, descriptorAt p 10, cls⟩)
    else none
  | _, _ => none

/-- WRITE_STEP: index and step, adjusted and checked (R121, orders 2 and 3). -/
def parseStep (p : List Byte) : Option (Fin 24 × ProgramStep) :=
  match indexBelow 24 (byteAt p 0), rampOf (byteAt p 3) with
  | some i, some ramp =>
    if byteAt p 6 ≤ 15 ∧ byteAt p 7 ≤ 1 then
      some (i, ⟨min (byteAt p 1) 127, max (byteAt p 2) 1, ramp, min (byteAt p 4) 15,
        min (byteAt p 5) 15, BitVec.ofNat 4 (byteAt p 6), byteAt p 7 == 1⟩)
    else none
  | _, _ => none

/-- SET_SEQUENCER: the four settings, the lead clamped (R118). -/
def parseSequencer (p : List Byte) : Option SequencerSettings :=
  if byteAt p 0 = 0 then none
  else some ⟨byteAt p 0, fieldAt p 1 2, byteAt p 3, min (byteAt p 4) 6⟩

/-- START_SCHEDULE: start, end and repeat count from position `i` on (R128). -/
def parseRun (p : List Byte) (i : Nat) : Option RunParams :=
  match indexBelow 24 (byteAt p i), indexBelow 24 (byteAt p (i + 1)) with
  | some start, some stop => some ⟨start, stop, byteAt p (i + 2)⟩
  | _, _ => none

/-- SET_TRIGGER: kind and entry (R119). -/
def parseTrigger (p : List Byte) : Option (Fin 3 × RunParams) :=
  match indexBelow 3 (byteAt p 0), parseRun p 1 with
  | some i, some r => some (i, r)
  | _, _ => none

/-- SET_OVERLOAD: the four settings, clamped; no payload is refused (R147). -/
def parseOverload (p : List Byte) : OverloadSettings :=
  ⟨min (byteAt p 0) 3, fieldAt p 1 3, byteAt p 4, min (byteAt p 5) 7⟩

/-- SET_MISMATCH: the four settings, clamped; no payload is refused (R149). -/
def parseMismatch (p : List Byte) : MismatchSettings :=
  ⟨max 1 (min (byteAt p 0) 15), max 1 (min (byteAt p 1) 15), min (byteAt p 2) 15, byteAt p 3⟩

/-- SET_CHAIN: chain and its four fields (R154, orders 2 to 4). -/
def parseSetChain (p : List Byte) : Option (Chain × ChainPolicy) :=
  match indexBelow 4 (byteAt p 0) with
  | none => none
  | some c =>
    if byteAt p 1 ≤ 1 ∧ byteAt p 3 ≤ byteAt p 2 then
      some (c, ⟨byteAt p 1 == 1, byteAt p 2, byteAt p 3, fieldAt p 4 5⟩)
    else none

/-- SET_LIFETIME: the lifetime clamped to 1..32 ms (R156). -/
def parseLifetime (v : Nat) : Nat :=
  max 1 (min v 32)

/-- SET_TRIGGER_ENABLE: the mask (R157). -/
def parseTriggerEnable (v : Nat) : Option (BitVec 3) :=
  if v ≤ 7 then some (BitVec.ofNat 3 v) else none

/-- CLEAR_EVENTS and SET_ALERT_MASK: a mask of nine kinds (R165, R167). -/
def parseEventMask (p : List Byte) : Option (BitVec 9) :=
  if fieldAt p 0 2 ≤ 0x1FF then some (BitVec.ofNat 9 (fieldAt p 0 2)) else none

/-! ### The image (R178, R180) -/

/-- The figures of `n` entries, if every one is acceptable. -/
def collect {α : Type} {n : Nat} (f : Fin n → Option α) : Option (Vector α n) :=
  if h : ∀ i, (f i).isSome then some (Vector.ofFn fun i => (f i).get (h i)) else none

/-- An entry whose index must equal its place in its section (R180, test 4). -/
def atPlace {α : Type} {n : Nat} (i : Fin n) : Option (Fin n × α) → Option α
  | some (j, a) => if j = i then some a else none
  | none => none

/-- The word at a place of the flash, 0xFFFF where it gives none (R180, test 1). -/
def flashWord (flash : List Word16) (i : Nat) : Word16 :=
  flash.getD i 0xFFFF

/-- The image's 254 words, as read (R178, R179). -/
def imageWords (flash : List Word16) : List Word16 :=
  (List.range 254).map (flashWord flash)

/-- The 502 bytes of the contents area, two to a word, most significant first (R178). -/
def contentBytes (flash : List Word16) : List Byte :=
  (((imageWords flash).drop 2).take 251).flatMap fun w => [w.extractLsb' 8 8, w.extractLsb' 0 8]

/-- The payload of `size` bytes at place `i` of the section that begins at byte `offset`. -/
def sectionPayload (bytes : List Byte) (offset size i : Nat) : List Byte :=
  (bytes.drop (offset + size * i)).take size

/-- Sections 1 and 2 in one: the thermal payloads of the four chains (R178). -/
def imageThermal (bytes : List Byte) : Option (Vector ThermalPayload 4) :=
  collect fun c : Fin 4 =>
    match parseThermal (sectionPayload bytes 35 15 c.val) with
    | some t => if t.chain = c then some t else none
    | none => none

/-- The default context of section 9 (R178). -/
def imageContext (bytes : List Byte) : Option Context :=
  match collect (fun c : Fin 4 => atPlace c (parseSetChain (sectionPayload bytes 447 9 c.val))),
      parseTriggerEnable (byteAt bytes 487) with
  | some chains, some triggers => some ⟨chains, fieldAt bytes 483 3, parseLifetime (byteAt bytes 486), triggers⟩
  | _, _ => none

/-- The contents of the thirteen sections, if every field is acceptable to its command, clamped as
the command clamps it; the fallback and the step period are the chain 3 payload's (R178, R180). -/
def parseContents (bytes : List Byte) : Option Contents :=
  match collect (fun i : Fin 5 => atPlace i (parseSensorCal (sectionPayload bytes 0 7 i.val))),
      imageThermal bytes,
      collect (fun k : Fin 8 => atPlace k (parseClass (sectionPayload bytes 95 3 k.val))),
      parseServiceMap (sectionPayload bytes 119 5 0),
      collect (fun i : Fin 6 => atPlace i (parseMatcher (sectionPayload bytes 124 19 i.val))),
      collect (fun i : Fin 24 => atPlace i (parseStep (sectionPayload bytes 238 8 i.val))),
      parseSequencer (sectionPayload bytes 430 5 0),
      collect (fun i : Fin 3 => atPlace i (parseTrigger (sectionPayload bytes 435 4 i.val))),
      imageContext bytes,
      parseWindowShape (sectionPayload bytes 488 2 0),
      parseEventMask (sectionPayload bytes 500 2 0) with
  | some sensors, some thermal, some classes, some service, some matchers, some program,
      some sequencer, some triggers, some context, some shape, some alertMask =>
    some
      { sensors := sensors
        coeffs := Vector.ofFn fun c : Fin 4 => thermal[c].coeffs
        fallback := thermal[3].fallback
        stepPeriod := thermal[3].period
        classes := classes
        service := service
        matchers := matchers
        program := program
        sequencer := sequencer
        triggers := triggers
        context := context
        shape := shape
        overload := parseOverload (sectionPayload bytes 490 6 0)
        mismatch := parseMismatch (sectionPayload bytes 496 4 0)
        alertMask := alertMask }
  | _, _, _, _, _, _, _, _, _, _, _ => none

/-- The 16-bit sum of the image's words (R180, test 3). -/
def imageSum (flash : List Word16) : Nat :=
  ((imageWords flash).map (·.toNat)).sum % 65536

/-- The image's judgement: its contents when every test of R180 passes, in order. -/
def judgeImage (flash : List Word16) : Option Contents :=
  if flashWord flash 0 ≠ 0xA410 then none
  else if flashWord flash 1 ≠ 254 then none
  else if imageSum flash ≠ 0 then none
  else parseContents (contentBytes flash)

end Sys2Proof.Machine
end

