-- ==== Sys2Proof/Machine/Ops.lean ====
section
/-! DEFINITION. The shared operations: port framing, events, notices, triggers, charges, grants, the
thermal test's announcements, the effective pool limit, and taking a start in the sequencer. -/

namespace Sys2Proof.Machine

open Sys2Proof

/-! ### RST_N and the ports -/

/-- While RST_N is held asserted the part stays in its power-on state and answers neither port (R179). -/
def State.unlessHeld (s : State) (f : State → State) : State :=
  if s.rstHeld then s else f s

/-- The two-byte response header: the kind echoed, then the epoch with bit 0x10 while LOADING (R172). -/
def State.linkHeader (s : State) (kind : Byte) : List Byte :=
  [kind, toByte (s.link.epoch.toNat + flagWeight s.isLoading 16)]

/-- The response part of the frame in progress becomes the header and this answer (R172). -/
def State.answerLink (s : State) (kind : Byte) (answer : List Byte) : State :=
  s.withLink { s.link with response := s.linkHeader kind ++ answer }

/-- A Policy Port command is taken: the answer replaces the response buffer and the in-flight command
marker is cleared (R175). -/
def State.reply (s : State) (status : Status) (data : List Byte) : State :=
  s.withPolicy { s.policy with inFlight := none, response := ⟨status, data⟩ }

/-- The write transfer of a command ends: the command is taken when the in-flight marker stands set by its
command byte. With the marker clear the write carried no command byte, or a reset discarded it, and the end
takes nothing; with another byte in flight it is not this command's write that ends (R175). -/
def State.atWriteEnd (s : State) (command : Byte) (f : State → State) : State :=
  s.unlessHeld fun s => if s.policy.inFlight = some command then f s else s

/-- What an owning block gives back for a command: its status, its data and the state it leaves. -/
structure BlockAnswer where
  status : Status
  data : List Byte
  state : State

/-- A refusal: a status with no data and no effect (R176). -/
def State.refuse (s : State) (status : Status) : BlockAnswer :=
  ⟨status, [], s⟩

/-- An acceptance with no data. -/
def State.accept (s : State) : BlockAnswer :=
  ⟨.ok, [], s⟩

/-- A Policy Port command of the table is taken: NOT_READY while LOADING, BAD_LENGTH for a payload of
another length, otherwise its block's answer (R176, orders 2 to 4). -/
def State.takeCommand (s : State) (length : Nat) (payload : List Byte) (block : State → BlockAnswer) :
    State :=
  if s.isLoading then s.reply .notReady []
  else if payload.length ≠ length then s.reply .badLength []
  else (block s).state.reply (block s).status (block s).data

/-! ### Events, notices, triggers -/

/-- An event record takes one event: flag set, chain bits ORed in, count raised to at most 255 (R164). -/
def EventRecord.take (r : EventRecord) (mask : BitVec 5) : EventRecord :=
  ⟨true, r.mask ||| mask, count8 r.count⟩

/-- A block raises an event with the Event Latch (R164). -/
def State.raiseEvent (s : State) (kind : EventKind) (mask : BitVec 5) : State :=
  s.withEvents
    { s.events with
      records := s.events.records.set kind.index ((s.events.records[kind.index]).take mask) }

/-- A notice arrives: it joins the young end, or coalesces into the held notice of its kind, whose
mask takes the new bits and whose value is replaced (R169). -/
def arrive (n : Notice) : List Notice → List Notice
  | [] => [n]
  | h :: t =>
    if h.kind = n.kind then ⟨h.kind, h.mask ||| n.mask, n.value⟩ :: t else h :: arrive n t

/-- A block queues a notice (R169). -/
def State.queueNotice (s : State) (kind : NoticeKind) (mask : BitVec 4) (value : Nat) : State :=
  s.withNotices (arrive ⟨kind, mask, BitVec.ofNat 16 value⟩ s.notices)

/-- The sequencer takes a start: STARTING in IDLE, new run parameters in STARTING, otherwise the pending
start, absent or replaced (R128, R136). -/
def BackoffSequencer.takeStart (q : BackoffSequencer) (r : RunParams) : BackoffSequencer :=
  match q.state with
  | .idle => { q with state := .starting, run := r }
  | .starting => { q with run := r }
  | .running => { q with pendingStart := some r }
  | .frozen => { q with pendingStart := some r }
  | .holding => { q with pendingStart := some r }

/-- The gate of the trigger latch: enabled in the current context, latch clear, part READY (R166). -/
def State.triggerPasses (s : State) (t : TriggerKind) : Bool :=
  s.context.current.triggers.getLsbD t.index.val && s.events.latch.isNone && !s.isLoading

/-- A trigger is presented to the Event Latch. When it passes, the latch is set with its kind and the
sequencer takes its map entry's start; otherwise it starts nothing (R136, R166). -/
def State.presentTrigger (s : State) (t : TriggerKind) : State :=
  if s.triggerPasses t then
    (s.withEvents { s.events with latch := some t }).withSequencer
      (s.sequencer.takeStart s.sequencer.triggers[t.index])
  else s

/-! ### Charges -/

/-- A bucket takes `a` eu, saturating (R61, R62). -/
def Bucket.add (b : Bucket) (a : Nat) : Bucket :=
  if b.energy + a < max32 then ⟨b.energy + a, b.pinned⟩ else ⟨max32, true⟩

/-- The sum s of a charge of code p and duration d, with the residue (R8, step 1). -/
def WindowChain.chargeSum (w : WindowChain) (p d : Nat) : Nat :=
  linearPower p * d + w.residue

/-- A charge of code p and duration d lands in the current bucket, the window sum and the heat-in
accumulator, and the residue carries what is below one eu; a charge of 0 eu changes only the residue
(R8, R61, R63). -/
def WindowChain.charge (w : WindowChain) (current p d : Nat) : WindowChain :=
  let a := w.chargeSum p d / 64
  let b := w.ring.getD current ⟨0, false⟩
  if a = 0 then { w with residue := w.chargeSum p d % 64 }
  else
    { ring := w.ring.set current (b.add a)
      sum := w.sum + ((b.add a).energy - b.energy)
      residue := w.chargeSum p d % 64
      heatIn := min (w.heatIn + a) max32 }

/-- The Energy Window Unit takes a charge on a chain (R61). -/
def State.charge (s : State) (c : Chain) (p d : Nat) : State :=
  s.withWindows
    { s.windows with
      chains := s.windows.chains.set c ((s.windows.chains[c]).charge s.windows.current p d) }

/-! ### Open grants -/

/-- A chain's list takes a new record at its young end and its reserved energy grows (R38, R40). -/
def GrantChain.enlist (g : GrantChain) (r : OpenGrant) : GrantChain :=
  { g with opened := g.opened ++ [r], reserved := g.reserved + r.projected }

/-- The record with a tag leaves a chain's list and its reserved energy falls by the record's figure;
the records behind it keep their order (R38, R41). -/
def GrantChain.release (g : GrantChain) (r : OpenGrant) : GrantChain :=
  { g with
    opened := g.opened.eraseP (fun x => x.tag == r.tag)
    reserved := g.reserved - r.projected }

/-- The Grant Table opens a grant; the pool sum grows by its linear power (R40). -/
def State.openGrant (s : State) (c : Chain) (r : OpenGrant) : State :=
  s.withGrants
    { chains := s.grants.chains.set c ((s.grants.chains[c]).enlist r)
      poolSum := s.grants.poolSum + r.power }

/-- A record leaves its list: its timer stops, and the sums fall by its figures (R41, R42). -/
def State.removeGrant (s : State) (c : Chain) (r : OpenGrant) : State :=
  s.withGrants
    { chains := s.grants.chains.set c ((s.grants.chains[c]).release r)
      poolSum := s.grants.poolSum - r.power }

/-- A grant lapses: charged at its granted figures, LAPSE recorded, removed (R50; R48, part 1). -/
def State.lapseGrant (s : State) (c : Chain) (r : OpenGrant) : State :=
  ((s.charge c r.code r.duration).raiseEvent .lapse (eventMask (chainBit c))).removeGrant c r

/-! ### The thermal states' announcements -/

/-- The chains that meet a test, in order. -/
def chainsWhere (test : Chain → Bool) : List Chain :=
  allChains.filter test

/-- A chain's tripped condition differs between two moments. -/
def tripChanged (before after : ThermalEstimator) (c : Chain) : Bool :=
  before.isTripped c != after.isTripped c

/-- A chain entered TRIPPED between two moments. -/
def tripEntered (before after : ThermalEstimator) (c : Chain) : Bool :=
  !before.isTripped c && after.isTripped c

/-- What one event's changes of the thermal states raise: a TRIP event for each chain that entered
TRIPPED; one TRIP_CHANGE, whose mask is the chains whose tripped condition changed and whose value is
the tripped mask after; the TRIP trigger once for each chain that entered (R85, R86). -/
def State.announceTrips (s : State) (before : ThermalEstimator) : State :=
  let entered := chainsWhere (tripEntered before s.thermal)
  let changed := maskOf (tripChanged before s.thermal)
  let raised := entered.foldl (fun t c => t.raiseEvent .trip (eventMask (chainBit c))) s
  let told := if changed = 0 then raised
    else raised.queueNotice .tripChange changed s.thermal.trippedMask.toNat
  entered.foldl (fun t _ => t.presentTrigger .trip) told

/-- The Thermal Estimator's chain records change, and the changes of state are announced. -/
def State.changeThermal (s : State) (after : ThermalEstimator) : State :=
  (s.withThermal after).announceTrips s.thermal

/-- A chain's state is re-evaluated from its estimate (R83). -/
def ThermalChain.reevaluate (t : ThermalChain) : ThermalChain :=
  { t with state := reevaluated t.coeffs t.estimate t.state }

/-- Every chain's state is re-evaluated (R83). -/
def ThermalEstimator.reevaluateAll (t : ThermalEstimator) : ThermalEstimator :=
  { t with chains := Vector.ofFn fun c : Fin 4 => (t.chains[c]).reevaluate }

/-- An estimate takes a computed figure, clamped, with its pinned flag (R11, R12). -/
def ThermalChain.setEstimate (t : ThermalChain) (x : Int) : ThermalChain :=
  { t with estimate := clampTemp x, pinned := pinnedBy x }

/-! ### The effective pool limit -/

/-- E is recomputed; POOL_CUT is queued when E has changed and lies below the pool sum (R145, R146). -/
def State.recomputeLimit (s : State) : State :=
  let e := effectiveLimit s.supply.applied s.context.current.poolLimit s.supply.settings
  let t := s.withSupply { s.supply with limit := e }
  if e ≠ s.supply.limit ∧ e < s.grants.poolSum then
    t.queueNotice .poolCut s.grants.openMask (e / 1024)
  else t

/-- The event and the trigger of a rise to a level (R142, step 2). -/
def State.announceLevel (s : State) (level : SupplyLevel) : State :=
  match level with
  | .nominal => s
  | .warn => s.raiseEvent .overloadWarn 0
  | .crit => (s.raiseEvent .overloadCrit 0).presentTrigger .overloadCrit

/-- The applied level becomes a level, and no hold runs. -/
def State.applyLevel (s : State) (level : SupplyLevel) : State :=
  s.withSupply { s.supply with applied := level, hold := none }

/-- The target level has been re-formed and is compared with the applied level: a rise takes effect at
once with its event, an equal level cancels the hold, a fall starts the recovery hold where none runs,
and falls at once with H = 0 (R142, R143). -/
def State.reformTarget (s : State) : State :=
  let target := s.supply.target
  if s.supply.applied.code < target.code then
    ((s.applyLevel target).announceLevel target).recomputeLimit
  else if target.code = s.supply.applied.code then
    s.withSupply { s.supply with hold := none }
  else if s.supply.hold.isSome then s
  else if s.supply.settings.hold = 0 then (s.applyLevel target).recomputeLimit
  else s.withSupply { s.supply with hold := some s.supply.settings.holdMicros }

/-- Both pins' levels are taken directly, without debounce, and no debounce runs (R148). -/
def SupplyPool.sampled (p : SupplyPool) : SupplyPool :=
  { p with
    warnLine := ⟨p.warnLine.pin, p.warnLine.pin, none⟩
    critLine := ⟨p.critLine.pin, p.critLine.pin, none⟩ }

end Sys2Proof.Machine
end

