-- ==== Sys2Proof/Machine/Contexts.lean ====
section
/-! DEFINITION. Chapter 10: the current context and the context stack. Commands SET_CHAIN,
SET_POOL_LIMIT, SET_LIFETIME, SET_TRIGGER_ENABLE, PUSH_CONTEXT, POP_CONTEXT and PEEK_CONTEXT. -/

namespace Sys2Proof.Machine

open Sys2Proof

/-- The current context changes; the stack stands (R161). -/
def State.setContext (s : State) (x : Context) : State :=
  s.withContext { s.context with current := x }

/-- The Context Store's answer to SET_CHAIN (R154). -/
def setChainBlock (payload : List Byte) (s : State) : BlockAnswer :=
  match parseSetChain payload with
  | none => s.refuse .range
  | some (c, p) =>
    (s.setContext { s.context.current with chains := s.context.current.chains.set c p }).accept

/-- SET_CHAIN (R154). -/
def execSetChain (payload : List Byte) (s : State) : Host.Outcome State Fault Refusal :=
  .next <| s.atWriteEnd 0x40 fun s => s.takeCommand 9 payload (setChainBlock payload)

/-- The answer to SET_POOL_LIMIT: E is recomputed (R155). -/
def setPoolLimitBlock (payload : List Byte) (s : State) : BlockAnswer :=
  (s.setContext { s.context.current with poolLimit := fieldAt payload 0 3 }).recomputeLimit.accept

/-- SET_POOL_LIMIT (R155). -/
def execSetPoolLimit (payload : List Byte) (s : State) : Host.Outcome State Fault Refusal :=
  .next <| s.atWriteEnd 0x41 fun s => s.takeCommand 3 payload (setPoolLimitBlock payload)

/-- The Context Store's answer to SET_LIFETIME (R156). -/
def setLifetimeBlock (payload : List Byte) (s : State) : BlockAnswer :=
  (s.setContext { s.context.current with lifetime := parseLifetime (byteAt payload 0) }).accept

/-- SET_LIFETIME (R156). -/
def execSetLifetime (payload : List Byte) (s : State) : Host.Outcome State Fault Refusal :=
  .next <| s.atWriteEnd 0x42 fun s => s.takeCommand 1 payload (setLifetimeBlock payload)

/-- The Context Store's answer to SET_TRIGGER_ENABLE (R157). -/
def setTriggerEnableBlock (payload : List Byte) (s : State) : BlockAnswer :=
  match parseTriggerEnable (byteAt payload 0) with
  | none => s.refuse .range
  | some m => (s.setContext { s.context.current with triggers := m }).accept

/-- SET_TRIGGER_ENABLE (R157). -/
def execSetTriggerEnable (payload : List Byte) (s : State) : Host.Outcome State Fault Refusal :=
  .next <| s.atWriteEnd 0x43 fun s => s.takeCommand 1 payload (setTriggerEnableBlock payload)

/-- The Context Store's answer to PUSH_CONTEXT (R158). -/
def pushContextBlock (s : State) : BlockAnswer :=
  if 4 ≤ s.context.stack.length then s.refuse .stackFull
  else (s.withContext { s.context with stack := s.context.current :: s.context.stack }).accept

/-- PUSH_CONTEXT (R158). -/
def execPushContext (payload : List Byte) (s : State) : Host.Outcome State Fault Refusal :=
  .next <| s.atWriteEnd 0x44 fun s => s.takeCommand 0 payload pushContextBlock

/-- The Context Store's answer to POP_CONTEXT: the whole context is replaced, and E recomputed
(R159, R161). -/
def popContextBlock (s : State) : BlockAnswer :=
  match s.context.stack with
  | [] => s.refuse .stackEmpty
  | top :: rest => (s.withContext ⟨top, rest⟩).recomputeLimit.accept

/-- POP_CONTEXT (R159). -/
def execPopContext (payload : List Byte) (s : State) : Host.Outcome State Fault Refusal :=
  .next <| s.atWriteEnd 0x45 fun s => s.takeCommand 0 payload popContextBlock

/-- The eight bytes of a chain's fields in PEEK_CONTEXT (12.4.4). -/
def ChainPolicy.bytes (p : ChainPolicy) : List Byte :=
  [toByte (flagWeight p.enabled 1), toByte p.ceiling, toByte p.minimum] ++ toBytes p.windowLimit 5

/-- Every field of a context, as PEEK_CONTEXT lays it out (12.4.4). -/
def Context.bytes (x : Context) : List Byte :=
  x.chains[0].bytes ++ x.chains[1].bytes ++ x.chains[2].bytes ++ x.chains[3].bytes
    ++ toBytes x.poolLimit 3 ++ [toByte x.lifetime, toByte x.triggers.toNat]

/-- The Context Store's answer to PEEK_CONTEXT (R160). -/
def peekContextBlock (s : State) : BlockAnswer :=
  match s.context.stack with
  | [] => s.refuse .stackEmpty
  | top :: _ => ⟨.ok, toByte s.context.stack.length :: top.bytes, s⟩

/-- PEEK_CONTEXT (R160). -/
def execPeekContext (payload : List Byte) (s : State) : Host.Outcome State Fault Refusal :=
  .next <| s.atWriteEnd 0x46 fun s => s.takeCommand 0 payload peekContextBlock

end Sys2Proof.Machine
end

