-- ==== Sys2Proof/Machine/Events.lean ====
section
/-! DEFINITION. Chapter 11: the Event Latch's commands READ_EVENTS, CLEAR_EVENTS and SET_ALERT_MASK. -/

namespace Sys2Proof.Machine

open Sys2Proof

/-- The two bytes of an event record (12.4.4). -/
def EventRecord.bytes (r : EventRecord) : List Byte :=
  [toByte (flagWeight r.raised 128 + r.mask.toNat), toByte r.count]

/-- The 21 bytes of the READ_EVENTS data (12.4.4). -/
def EventLatch.bytes (e : EventLatch) : List Byte :=
  e.records.toList.flatMap EventRecord.bytes ++ toBytes e.alertMask.toNat 2 ++ [toByte (latchCode e.latch)]

/-- The Event Latch's answer to READ_EVENTS (R167). -/
def readEventsBlock (s : State) : BlockAnswer :=
  ⟨.ok, s.events.bytes, s⟩

/-- READ_EVENTS (R167). -/
def execReadEvents (payload : List Byte) (s : State) : Host.Outcome State Fault Refusal :=
  .next <| s.atWriteEnd 0x50 fun s => s.takeCommand 0 payload readEventsBlock

/-- A clear mask names the kind that set the trigger latch (R167, step 2). -/
def clearsLatch (mask : BitVec 9) : Option TriggerKind → Bool
  | none => false
  | some t => mask.getLsbD t.event.index.val

/-- The named records are cleared, and the latch when its kind is named (R167). -/
def EventLatch.cleared (e : EventLatch) (mask : BitVec 9) : EventLatch :=
  { e with
    records := Vector.ofFn fun i : Fin 9 => if mask.getLsbD i.val then ⟨false, 0, 0⟩ else e.records[i]
    latch := if clearsLatch mask e.latch then none else e.latch }

/-- The Event Latch's answer to CLEAR_EVENTS (R167). -/
def clearEventsBlock (payload : List Byte) (s : State) : BlockAnswer :=
  match parseEventMask payload with
  | none => s.refuse .range
  | some m => (s.withEvents (s.events.cleared m)).accept

/-- CLEAR_EVENTS (R167). -/
def execClearEvents (payload : List Byte) (s : State) : Host.Outcome State Fault Refusal :=
  .next <| s.atWriteEnd 0x51 fun s => s.takeCommand 2 payload (clearEventsBlock payload)

/-- The Event Latch's answer to SET_ALERT_MASK (R165). -/
def setAlertMaskBlock (payload : List Byte) (s : State) : BlockAnswer :=
  match parseEventMask payload with
  | none => s.refuse .range
  | some m => (s.withEvents { s.events with alertMask := m }).accept

/-- SET_ALERT_MASK (R165). -/
def execSetAlertMask (payload : List Byte) (s : State) : Host.Outcome State Fault Refusal :=
  .next <| s.atWriteEnd 0x52 fun s => s.takeCommand 2 payload (setAlertMaskBlock payload)

end Sys2Proof.Machine
end

