-- ==== Sys2Proof/Machine/Closes.lean ====
section
/-! DEFINITION. Chapter 3 and 9.7: closes, lapses, link resets and the reflect codes closes pass on.
Commands BURST_CLOSE, LAPSE and LINK_RESET. -/

namespace Sys2Proof.Machine

open Sys2Proof

/-! ### Reflect codes (R150, R151) -/

/-- A count of the Mismatch Monitor counts one, stopping at 15 (R150). -/
def countRun (n : Nat) : Nat :=
  min (n + 1) 15

/-- A chain's mismatch record changes. -/
def State.setMismatch (s : State) (c : Chain) (m : MismatchChain) : State :=
  s.withMismatch { s.mismatch with chains := s.mismatch.chains.set c m }

/-- A chain enters MISMATCHED: counts 0, MISMATCH, MISMATCH_CHANGE, trigger (R151). -/
def State.enterMismatch (s : State) (c : Chain) : State :=
  let t := (s.setMismatch c ⟨.mismatched, 0, 0⟩).raiseEvent .mismatch (eventMask (chainBit c))
  (t.queueNotice .mismatchChange (chainBit c) t.mismatch.mismatchedMask.toNat).presentTrigger .mismatch

/-- A chain returns to CLEAR: counts 0, MISMATCH_CHANGE (R151). -/
def State.leaveMismatch (s : State) (c : Chain) : State :=
  let t := s.setMismatch c ⟨.clear, 0, 0⟩
  t.queueNotice .mismatchChange (chainBit c) t.mismatch.mismatchedMask.toNat

/-- The Mismatch Monitor takes a reflect code on a chain (R150). -/
def State.reflectCode (s : State) (c : Chain) (r : Nat) : State :=
  let m := s.mismatch.chains[c]
  match m.state with
  | .clear =>
    if s.mismatch.settings.threshold ≤ r then
      if s.mismatch.settings.runCount ≤ countRun m.overRun then s.enterMismatch c
      else s.setMismatch c { m with overRun := countRun m.overRun }
    else s.setMismatch c { m with overRun := 0 }
  | .mismatched =>
    if r < s.mismatch.settings.releaseThreshold then
      if s.mismatch.settings.runCount ≤ countRun m.underRun then s.leaveMismatch c
      else s.setMismatch c { m with underRun := countRun m.underRun }
    else s.setMismatch c { m with underRun := 0 }

/-! ### Closes -/

/-- The results of a close (R43, R173). -/
inductive CloseResult where
  | closed
  | closedWithLapse
  | unknownTag
  | badChain
  | badFrame
  deriving DecidableEq, Repr

/-- The code of a CLOSE_RESULT (12.3). -/
def CloseResult.code : CloseResult → Nat
  | .closed => 0
  | .closedWithLapse => 1
  | .unknownTag => 2
  | .badChain => 3
  | .badFrame => 4

/-- The three bytes of a CLOSE_RESULT answer (12.4.2). -/
def closeBytes (result : CloseResult) (chain tag : Byte) : List Byte :=
  [toByte result.code, chain, tag]

/-- A close is an excess close (R46). -/
def excessClose (g : OpenGrant) (pact dact : Nat) : Bool :=
  decide (1 ≤ dact ∧ (g.code < pact ∨ g.duration < dact))

/-- The named record is closed: excess test, charge at the reported figures, reflect code, removal
(R45..R47, R49). `dact` and `r` are clamped. -/
def State.closeRecord (s : State) (c : Chain) (g : OpenGrant) (pact dact r : Nat) : State :=
  let tested := if excessClose g pact dact then s.raiseEvent .excess (eventMask (chainBit c)) else s
  let charged := tested.charge c pact dact
  let passed := if 1 ≤ dact then charged.reflectCode c r else charged
  passed.removeGrant c g

/-- A close whose tag is not in the chain's list counts as late (R44, R52). -/
def State.lateClose (s : State) (c : Chain) : State :=
  s.withGrants
    { s.grants with
      chains := s.grants.chains.set c
        { s.grants.chains[c] with lateCloses := count16 s.grants.chains[c].lateCloses } }

/-- What taking a close comes to: the state it leaves and its result. -/
structure CloseTaken where
  state : State
  result : CloseResult

/-- A close on a valid chain: unknown, in order, or out of order, when the older record lapses first
(R43..R45, R48). -/
def State.closeOn (s : State) (c : Chain) (tag : Byte) (pact dact r : Nat) : CloseTaken :=
  match s.grants.chains[c].opened with
  | [] => ⟨s.lateClose c, .unknownTag⟩
  | oldest :: younger =>
    if oldest.tag = tag then ⟨s.closeRecord c oldest pact dact r, .closed⟩
    else
      match younger.find? (·.tag == tag) with
      | none => ⟨s.lateClose c, .unknownTag⟩
      | some g => ⟨(s.lapseGrant c oldest).closeRecord c g pact dact r, .closedWithLapse⟩

/-- BURST_CLOSE (R43..R49). -/
def execBurstClose (chain tag pact dact reflect : Byte) (s : State) :
    Host.Outcome State Fault Refusal :=
  .next <| s.unlessHeld fun s =>
    match chainOf chain with
    | none => s.answerLink 0x02 (closeBytes .badChain chain tag)
    | some c =>
      let t := s.closeOn c tag pact.toNat (clampDuration dact.toNat) (min reflect.toNat 15)
      t.state.answerLink 0x02 (closeBytes t.result chain tag)

/-! ### Lapses and link reset -/

/-- The lifetime timer of the grant with this tag expires; with no such grant open no timer runs, and
nothing happens (R42, R50, R51). -/
def State.takeLapse (s : State) (c : Chain) (tag : Byte) : State :=
  match s.grants.chains[c].opened.find? (·.tag == tag) with
  | none => s
  | some g => s.lapseGrant c g

/-- LAPSE (R50). -/
def execLapse (chain : Chain) (tag : Byte) (s : State) : Host.Outcome State Fault Refusal :=
  .next <| s.unlessHeld fun s => s.takeLapse chain tag

/-- Every record of a chain's list is charged at its granted figures, oldest first (R54, step 1). -/
def State.chargeOpen (s : State) (c : Chain) : State :=
  s.grants.chains[c].opened.foldl (fun t g => t.charge c g.code g.duration) s

/-- Every list is emptied and the sums are 0; the late-close counters stand (R54, steps 1 and 2). -/
def GrantTable.emptied (g : GrantTable) : GrantTable where
  chains := Vector.ofFn fun c : Fin 4 => { g.chains[c] with opened := [], reserved := 0 }
  poolSum := 0

/-- The Grant Table and the Notice Queue take a link reset (R54). -/
def State.linkReset (s : State) : State :=
  let charged := allChains.foldl State.chargeOpen s
  (charged.withGrants charged.grants.emptied).withNotices []

/-- LINK_RESET (R54). -/
def execLinkReset (s : State) : Host.Outcome State Fault Refusal :=
  .next <| s.unlessHeld fun s => s.linkReset.answerLink 0x05 [0x00]

end Sys2Proof.Machine
end

