-- ==== Sys2Proof/Machine/Requests.lean ====
section
/-! DEFINITION. Chapter 2 and 7.4: classification, the grant decision, the GRANT record, the chain
report. Commands BURST_REQ and READ_CHAIN. -/

namespace Sys2Proof.Machine

open Sys2Proof

/-! ### The GRANT record (R32) -/

/-- The outcomes of a GRANT record. -/
inductive GrantOutcome where
  | granted
  | withheld
  | refused
  deriving DecidableEq, Repr

/-- The withheld reasons. -/
inductive WithheldReason where
  | disabled
  | trip
  | belowMin
  deriving DecidableEq, Repr

/-- The refusal codes. -/
inductive RefusalCode where
  | badChain
  | badDuration
  | openFull
  | dupTag
  | badFrame
  deriving DecidableEq, Repr

/-- A GRANT record (R32). -/
structure GrantRecord where
  outcome : GrantOutcome
  tag : Byte
  chain : Byte
  code : Nat
  reduction : Nat
  factor : Factor
  cls : Nat
  framed : Bool
  reason : Option WithheldReason
  refusal : Option RefusalCode
  deriving DecidableEq, Repr

/-- The code of an outcome (12.3). -/
def GrantOutcome.code : GrantOutcome → Nat
  | .granted => 0
  | .withheld => 1
  | .refused => 2

/-- The code of a withheld reason (12.3). -/
def withheldCode : Option WithheldReason → Nat
  | none => 0
  | some .disabled => 1
  | some .trip => 2
  | some .belowMin => 3

/-- The code of a refusal (12.3). -/
def refusalCode : Option RefusalCode → Nat
  | none => 0
  | some .badChain => 1
  | some .badDuration => 2
  | some .openFull => 3
  | some .dupTag => 4
  | some .badFrame => 5

/-- The ten bytes of a GRANT record (12.4.2). -/
def GrantRecord.bytes (r : GrantRecord) : List Byte :=
  [toByte r.outcome.code, r.tag, r.chain, toByte r.code, toByte r.reduction, toByte r.factor.code,
    toByte r.cls, toByte (flagWeight r.framed 1), toByte (withheldCode r.reason),
    toByte (refusalCode r.refusal)]

/-! ### Classification (R104, R109, R110) -/

/-- The service kind of descriptor byte 0, as its place in the service map (R106). -/
def serviceKind (d : Descriptor) : Option (Fin 5) :=
  indexBelow 5 (d[0].toNat - 1) |>.filter fun _ => decide (1 ≤ d[0].toNat)

/-- The three stages of R109. -/
def BurstClassifier.classOf (b : BurstClassifier) (d : Descriptor) : Fin 8 :=
  match b.matchers.toList.find? (·.matchesBurst d) with
  | some m => m.cls
  | none =>
    match serviceKind d with
    | some i => b.service[i]
    | none => 7

/-- The class of a request and its attributes: by R109 when READY, class 7 with the built-in
attributes while LOADING (R110). -/
def State.classify (s : State) (d : Descriptor) : Fin 8 × ClassEntry :=
  if s.isLoading then (7, ClassEntry.builtIn)
  else (s.classifier.classOf d, s.classifier.classes[s.classifier.classOf d])

/-! ### The seven ceilings (R20..R25) -/

/-- The seven ceilings. -/
structure Ceilings where
  pol : Option Nat
  th : Option Nat
  sch : Option Nat
  win : Option Nat
  pool : Option Nat
  mm : Option Nat
  start : Option Nat
  deriving DecidableEq, Repr

/-- The schedule ceiling (R22). -/
def State.scheduleCeiling (s : State) (c : Chain) (k : ClassEntry) : Nat :=
  let given := s.sequencer.given
  if given.2.getLsbD c.val && !k.exempt then
    lessBackoff s.context.current.chains[c].ceiling given.1
  else 255

/-- The start-up ceiling (R20). -/
def State.startCeiling (s : State) : Nat :=
  if s.isLoading then 160 else 255

/-- The mismatch ceiling (R25). -/
def State.mismatchCeiling (s : State) (c : Chain) : Nat :=
  if s.mismatch.chains[c].state = .mismatched then s.mismatch.settings.cap else 255

/-- The seven ceilings of a request of duration `d` in a class, as the figures stand (R20..R25). -/
def State.ceilings (s : State) (c : Chain) (k : ClassEntry) (d : Nat) : Ceilings where
  pol := some s.context.current.chains[c].ceiling
  th := some (lessBackoff s.context.current.chains[c].ceiling s.thermal.chains[c].backoff)
  sch := some (s.scheduleCeiling c k)
  win := linv ((s.remaining c * 64 / d : Nat) : Int)
  pool := linv ((s.supply.limit : Int) - s.grants.poolSum)
  mm := some (s.mismatchCeiling c)
  start := some s.startCeiling

/-- The soft ceiling (R26). -/
def Ceilings.soft (l : Ceilings) : Option Nat :=
  minCode (minCode l.th l.sch) l.win

/-- The hard ceiling (R26). -/
def Ceilings.hard (l : Ceilings) : Option Nat :=
  minCode (minCode (minCode l.pol l.pool) l.mm) l.start

/-! ### Candidate and limiting factor (R27, R28, R31) -/

/-- A candidate: its code, and whether the floor made it (the floor step of R28 changed it, or it came
from the trip path of R27). -/
structure Candidate where
  code : Option Nat
  byFloor : Bool
  deriving DecidableEq, Repr

/-- The candidate of a chain that is not TRIPPED, with the floor step (R28). -/
def floorStep (l : Ceilings) (preq floor : Nat) : Candidate :=
  let g := minCode (minCode (some preq) l.soft) l.hard
  if 0 < floor ∧ codeBelow g (min floor preq) then
    let lifted := minCode (some (min floor preq)) l.hard
    ⟨lifted, lifted != g⟩
  else ⟨g, false⟩

/-- The candidate of the trip path (R27). -/
def tripPath (l : Ceilings) (preq floor : Nat) : Candidate :=
  ⟨minCode (some (min preq floor)) l.hard, true⟩

/-- The limiting factor of a candidate (R31). -/
def limitingFactor (l : Ceilings) (preq floor : Nat) (g : Candidate) : Factor :=
  if g.code = some preq then .unlimited
  else if g.byFloor ∧ g.code = some floor then .floor
  else if g.code = l.pol then .policy
  else if g.code = l.pool then .pool
  else if g.code = l.mm then .mismatch
  else if g.code = l.start then .startup
  else if g.code = l.th then .thermal
  else if g.code = l.sch then .schedule
  else .window

/-! ### The answers -/

/-- The framed flag of a chain (R33). -/
def State.framed (s : State) (c : Chain) : Bool :=
  s.sequencer.frame && s.sequencer.current.mask.getLsbD c.val

/-- A REFUSED record (R32). -/
def refusedRecord (chain tag : Byte) (code : RefusalCode) : GrantRecord :=
  ⟨.refused, tag, chain, 0, 0, .unlimited, 0, false, none, some code⟩

/-- A WITHHELD record (R32). -/
def withheldRecord (chain tag : Byte) (reason : WithheldReason) (factor : Factor) (cls : Nat)
    (framed : Bool) : GrantRecord :=
  ⟨.withheld, tag, chain, 0, 0, factor, cls, framed, some reason, none⟩

/-- A GRANTED record (R32). -/
def grantedRecord (chain tag : Byte) (code preq : Nat) (factor : Factor) (cls : Nat) (framed : Bool) :
    GrantRecord :=
  ⟨.granted, tag, chain, code, preq - code, factor, cls, framed, none, none⟩

/-- A WITHHELD answer counts on its chain and sets the last limiting factor (R34). -/
def EngineChain.countWithheld (e : EngineChain) (factor : Factor) : EngineChain :=
  { e with withheld := count16 e.withheld, lastFactor := factor }

/-- A GRANTED answer counts, as reduced too when below the request, and sets the last limiting factor
(R30, R34). -/
def EngineChain.countIssued (e : EngineChain) (reduced : Bool) (factor : Factor) : EngineChain :=
  { e with
    issued := count16 e.issued
    reduced := if reduced then count16 e.reduced else e.reduced
    lastFactor := factor }

/-- The Grant Engine's figures of a chain change. -/
def State.setEngine (s : State) (c : Chain) (e : EngineChain) : State :=
  s.withEngine (s.engine.set c e)

/-- What taking a request comes to: the state it leaves and its record. -/
structure RequestResult where
  state : State
  record : GrantRecord

/-- The four refusal conditions, in order (R17). -/
def State.refusalOf (s : State) (chain tag : Byte) (d : Nat) : Option RefusalCode :=
  match chainOf chain with
  | none => some .badChain
  | some c =>
    if d = 0 then some .badDuration
    else if 2 ≤ s.grants.chains[c].opened.length then some .openFull
    else if s.grants.chains[c].opened.any (·.tag == tag) then some .dupTag
    else none

/-- The chain's request is withheld for a reason (R18, R27, R29, R34). -/
def State.withhold (s : State) (c : Chain) (chain tag : Byte) (reason : WithheldReason)
    (factor : Factor) (cls : Nat) : RequestResult :=
  ⟨s.setEngine c ((s.engine[c]).countWithheld factor),
    withheldRecord chain tag reason factor cls (s.framed c)⟩

/-- The record a grant opens with: the lifetime is the current context's as it stands (R39, R42). -/
def State.newGrant (s : State) (tag : Byte) (code d : Nat) : OpenGrant where
  tag := tag
  code := code
  power := linearPower code
  duration := d
  projected := projectedEnergy code d
  lifetime := s.context.current.lifetime

/-- The minimum test and the issue of the grant (R29, R30). -/
def State.issueOrWithhold (s : State) (c : Chain) (chain tag : Byte) (preq d : Nat) (cls : Nat)
    (factor : Factor) (g : Option Nat) : RequestResult :=
  match g with
  | none => s.withhold c chain tag .belowMin factor cls
  | some p =>
    if p < s.context.current.chains[c].minimum then s.withhold c chain tag .belowMin factor cls
    else
      ⟨(s.setEngine c ((s.engine[c]).countIssued (decide (p < preq)) factor)).openGrant c
          (s.newGrant tag p d),
        grantedRecord chain tag p preq factor cls (s.framed c)⟩

/-- The decision on an enabled chain from its class on (R19..R31). -/
def State.decision (s : State) (c : Chain) (chain tag : Byte) (preq d : Nat) (cls : Fin 8)
    (k : ClassEntry) : RequestResult :=
  let l := s.ceilings c k d
  if s.thermal.isTripped c then
    if k.tripPass ∧ 0 < k.floor then
      let g := tripPath l preq k.floor
      s.issueOrWithhold c chain tag preq d cls.val (limitingFactor l preq k.floor g) g.code
    else s.withhold c chain tag .trip .thermal cls.val
  else
    let g := floorStep l preq k.floor
    s.issueOrWithhold c chain tag preq d cls.val (limitingFactor l preq k.floor g) g.code

/-- A BURST_REQ is taken: refusals, enable, class, ceilings, trip, candidate, minimum (R16). `d` is the
clamped duration. -/
def State.takeRequest (s : State) (chain tag : Byte) (preq d : Nat) (desc : Descriptor) :
    RequestResult :=
  match s.refusalOf chain tag d, chainOf chain with
  | some code, _ => ⟨s, refusedRecord chain tag code⟩
  | none, none => ⟨s, refusedRecord chain tag .badChain⟩
  | none, some c =>
    if s.context.current.chains[c].enabled then
      s.decision c chain tag preq d (s.classify desc).1 (s.classify desc).2
    else s.withhold c chain tag .disabled .policy 0

/-- BURST_REQ (R16..R35). -/
def execBurstReq (chain tag preq duration : Byte) (descriptor : Descriptor) (s : State) :
    Host.Outcome State Fault Refusal :=
  .next <| s.unlessHeld fun s =>
    let r := s.takeRequest chain tag preq.toNat (clampDuration duration.toNat) descriptor
    r.state.answerLink 0x01 r.record.bytes

/-! ### The chain report (R36, R37) -/

/-- The 28 bytes of the chain report (12.4.4). -/
def State.chainReport (s : State) (c : Chain) : List Byte :=
  let t := s.thermal.chains[c]
  let w := s.windows.chains[c]
  let g := s.grants.chains[c]
  let e := s.engine[c]
  let flags := flagWeight t.pinned 1 + flagWeight w.bucketPinned 2
    + flagWeight (s.mismatch.chains[c].state == .mismatched) 4
  toSignedBytes t.estimate ++ [toByte flags, toByte t.state.code] ++ toBytes w.sum 5
    ++ toBytes g.reserved 3 ++ toBytes (s.remaining c) 5 ++ [toByte g.opened.length, toByte w.residue]
    ++ toBytes e.issued 2 ++ toBytes e.reduced 2 ++ toBytes e.withheld 2 ++ toBytes g.lateCloses 2
    ++ [toByte e.lastFactor.code]

/-- The four counters of a chain are zeroed; the last limiting factor stands (R34, R37). -/
def State.zeroCounters (s : State) (c : Chain) : State :=
  (s.setEngine c { s.engine[c] with issued := 0, reduced := 0, withheld := 0 }).withGrants
    { s.grants with chains := s.grants.chains.set c { s.grants.chains[c] with lateCloses := 0 } }

/-- The Grant Engine's answer to READ_CHAIN (R36, R37). -/
def readChainBlock (payload : List Byte) (s : State) : BlockAnswer :=
  match parseReadChain payload with
  | none => s.refuse .range
  | some (c, clear) => ⟨.ok, s.chainReport c, if clear then s.zeroCounters c else s⟩

/-- READ_CHAIN (R36). -/
def execReadChain (payload : List Byte) (s : State) : Host.Outcome State Fault Refusal :=
  .next <| s.atWriteEnd 0x10 fun s => s.takeCommand 2 payload (readChainBlock payload)

end Sys2Proof.Machine
end

