-- ==== Sys2Proof/Machine/Link.lean ====
section
/-! DEFINITION. The Burst Link messages the port and the Notice Queue answer, and the frames that are
not taken. Commands READ_NOTICE, READ_LINK_STATUS, BAD_FRAME and SHORT_FRAME. -/

namespace Sys2Proof.Machine

open Sys2Proof

/-- Byte `n` of the response part on BL_MISO; past the end of the response the controller reads 0x00
(R172). -/
def LinkPort.byteOut (p : LinkPort) (n : Nat) : Byte :=
  p.response.getD n 0x00

/-- The five bytes of a READ_NOTICE answer that returns a notice (12.4.2). -/
def Notice.bytes (n : Notice) : List Byte :=
  [0x00, toByte n.kind.code, toByte n.mask.toNat] ++ toBytes n.value.toNat 2

/-- READ_NOTICE: the oldest notice is removed and returned, or EMPTY is answered (R170). -/
def execReadNotice (s : State) : Host.Outcome State Fault Refusal :=
  .next <| s.unlessHeld fun s =>
    match s.notices with
    | [] => s.answerLink 0x03 [0x01, 0x00, 0x00, 0x00, 0x00]
    | n :: rest => (s.withNotices rest).answerLink 0x03 n.bytes

/-- The open counts of the four chains, chain c in bits 2c+1..2c (12.4.2). -/
def GrantTable.countsByte (g : GrantTable) : Byte :=
  toByte (g.chains[0].opened.length + 4 * g.chains[1].opened.length + 16 * g.chains[2].opened.length
    + 64 * g.chains[3].opened.length)

/-- The five bytes of a READ_LINK_STATUS answer (R58, R140, R174). -/
def State.linkStatus (s : State) : List Byte :=
  [0x00, s.grants.countsByte, toByte s.notices.length, toByte s.sequencer.state.code,
    toByte s.sequencer.given.1]

/-- READ_LINK_STATUS (R174). -/
def execReadLinkStatus (s : State) : Host.Outcome State Fault Refusal :=
  .next <| s.unlessHeld fun s => s.answerLink 0x04 s.linkStatus

/-- A kind's answer in its BAD_FRAME form (R173). -/
def badFrameAnswer (kind : Byte) : List Byte :=
  match kind.toNat with
  | 1 => (refusedRecord 0x00 0x00 .badFrame).bytes
  | 2 => closeBytes .badFrame 0x00 0x00
  | 3 => [0xFF, 0x00, 0x00, 0x00, 0x00]
  | 4 => [0xFF, 0x00, 0x00, 0x00, 0x00]
  | _ => [0xFF]

/-- BAD_FRAME: answered, and no state of the part changes but the port's answer (R173). -/
def execBadFrame (kind _length : Byte) (s : State) : Host.Outcome State Fault Refusal :=
  .next <| s.unlessHeld fun s => s.answerLink kind (badFrameAnswer kind)

/-- SHORT_FRAME: discarded; the frame has no response part (R173). -/
def execShortFrame (_received : List Byte) (s : State) : Host.Outcome State Fault Refusal :=
  .next <| s.unlessHeld fun s => s.withLink { s.link with response := [] }

end Sys2Proof.Machine
end

