-- ==== Sys2Proof/Machine/Overload.lean ====
section
/-! DEFINITION. Chapter 9: overload lines, recovery hold and the monitors' settings. Commands
OVL_PIN_CHANGE, DEBOUNCE_EXPIRY, RECOVERY_HOLD_EXPIRY, SET_OVERLOAD and SET_MISMATCH. -/

namespace Sys2Proof.Machine

open Sys2Proof

/-! ### Lines and debounce (R141) -/

/-- The monitor of a line. -/
def SupplyPool.line (p : SupplyPool) : OvlLine → LineMonitor
  | .warn => p.warnLine
  | .crit => p.critLine

/-- A line's monitor changes. -/
def SupplyPool.setLine (p : SupplyPool) (line : OvlLine) (m : LineMonitor) : SupplyPool :=
  match line with
  | .warn => { p with warnLine := m }
  | .crit => { p with critLine := m }

/-- A line's level is taken, and the target level re-formed (R141, R142). -/
def State.takeLine (s : State) (line : OvlLine) : State :=
  let pin := (s.supply.line line).pin
  (s.withSupply (s.supply.setLine line ⟨pin, pin, none⟩)).reformTarget

/-- A pin has changed to a level: it returns to the taken level and stops the timer; or it differs,
and is taken at once when D is 0 or else starts the debounce timer (R141). -/
def State.pinChanged (s : State) (line : OvlLine) (level : Bool) : State :=
  let m := s.supply.line line
  if level = m.taken then s.withSupply (s.supply.setLine line ⟨level, m.taken, none⟩)
  else if s.supply.settings.debounce = 0 then
    (s.withSupply (s.supply.setLine line ⟨level, m.taken, none⟩)).takeLine line
  else
    s.withSupply (s.supply.setLine line ⟨level, m.taken, some s.supply.settings.debounceMicros⟩)

/-- OVL_PIN_CHANGE (R141). A level the pin already shows is no change. While RST_N is held only the pin
itself moves (R179). -/
def execOvlPinChange (line : OvlLine) (asserted : Bool) (s : State) :
    Host.Outcome State Fault Refusal :=
  .next <|
    if s.rstHeld then
      s.withSupply (s.supply.setLine line { s.supply.line line with pin := asserted })
    else if (s.supply.line line).pin = asserted then s
    else s.pinChanged line asserted

/-- DEBOUNCE_EXPIRY (R141). A stopped timer does not expire. -/
def execDebounceExpiry (line : OvlLine) (s : State) : Host.Outcome State Fault Refusal :=
  .next <| s.unlessHeld fun s =>
    if (s.supply.line line).debounce.isSome then s.takeLine line else s

/-- The recovery hold expires: the applied level falls to the target and E is recomputed (R143). -/
def State.endHold (s : State) : State :=
  (s.applyLevel s.supply.target).recomputeLimit

/-- RECOVERY_HOLD_EXPIRY (R143). With no hold running nothing expires. -/
def execRecoveryHoldExpiry (s : State) : Host.Outcome State Fault Refusal :=
  .next <| s.unlessHeld fun s => if s.supply.hold.isSome then s.endHold else s

/-! ### Settings -/

/-- The Supply Pool Monitor's answer to SET_OVERLOAD (R147). -/
def setOverloadBlock (payload : List Byte) (s : State) : BlockAnswer :=
  (s.withSupply { s.supply with settings := parseOverload payload }).recomputeLimit.accept

/-- SET_OVERLOAD (R147). -/
def execSetOverload (payload : List Byte) (s : State) : Host.Outcome State Fault Refusal :=
  .next <| s.atWriteEnd 0x30 fun s => s.takeCommand 6 payload (setOverloadBlock payload)

/-- The Mismatch Monitor's answer to SET_MISMATCH (R149). -/
def setMismatchBlock (payload : List Byte) (s : State) : BlockAnswer :=
  (s.withMismatch { s.mismatch with settings := parseMismatch payload }).accept

/-- SET_MISMATCH (R149). -/
def execSetMismatch (payload : List Byte) (s : State) : Host.Outcome State Fault Refusal :=
  .next <| s.atWriteEnd 0x31 fun s => s.takeCommand 4 payload (setMismatchBlock payload)

end Sys2Proof.Machine
end

