-- ==== Sys2Proof/Machine/Policy.lean ====
section
/-! DEFINITION. Chapter 12.2: the Policy Port's own commands COMMAND_BYTE_ARRIVAL, BAD_COMMAND and
READ_STATUS. -/

namespace Sys2Proof.Machine

open Sys2Proof

/-- The in-flight command marker (R175). -/
def PolicyPort.marker (p : PolicyPort) : Bool :=
  p.inFlight.isSome

/-- The response buffer: the status byte, the data length byte and the data (R175). -/
def PolicyResponse.bytes (r : PolicyResponse) : List Byte :=
  [toByte r.status.code, toByte r.data.length] ++ r.data

/-- Byte `n` of a read transfer; bytes read past the data are 0x00 (R175). -/
def PolicyResponse.byteOut (r : PolicyResponse) (n : Nat) : Byte :=
  r.bytes.getD n 0x00

/-- COMMAND_BYTE_ARRIVAL: the in-flight command marker is set and payload bytes begin to gather (R175). -/
def execCommandByteArrival (command : Byte) (s : State) : Host.Outcome State Fault Refusal :=
  .next <| s.unlessHeld fun s => s.withPolicy { s.policy with inFlight := some command }

/-- BAD_COMMAND: answered before every other check, LOADING included (R176, order 1). -/
def execBadCommand (command : Byte) (_payload : List Byte) (s : State) :
    Host.Outcome State Fault Refusal :=
  .next <| s.atWriteEnd command fun s => s.reply .badCommand []

/-! ### The READ_STATUS data (12.4.5) -/

/-- An input's three bytes. -/
def SensorRecord.bytes (r : SensorRecord) : List Byte :=
  toSignedBytes r.lastValue
    ++ [toByte (r.lastStatus.code + 4 * r.invalidRun + flagWeight r.lastPinned 32 + flagWeight r.lost 128)]

/-- A pending start's four bytes: all 0x00 while absent (R140). -/
def pendingBytes : Option RunParams → List Byte
  | none => [0x00, 0x00, 0x00, 0x00]
  | some r => [0x01, toByte r.start.val, toByte r.stop.val, toByte r.repeats]

/-- The run parameters' three bytes: all 0x00 while IDLE (R140). -/
def BackoffSequencer.runBytes (q : BackoffSequencer) : List Byte :=
  if q.state = .idle then [0x00, 0x00, 0x00]
  else [toByte q.run.start.val, toByte q.run.stop.val, toByte q.run.repeats]

/-- The sequencer's seventeen bytes. -/
def BackoffSequencer.bytes (q : BackoffSequencer) : List Byte :=
  [toByte q.state.code, toByte (rememberedCode q.remembered), toByte q.step.val, toByte q.b, toByte q.k]
    ++ toBytes q.runCount 2 ++ [toByte q.repeatsLeft, toByte q.holdCount] ++ q.runBytes
    ++ pendingBytes q.pendingStart ++ [toByte (flagWeight q.frame 1)]

/-- A chain's three mismatch bytes. -/
def MismatchChain.bytes (m : MismatchChain) : List Byte :=
  [toByte m.state.code, toByte m.overRun, toByte m.underRun]

/-- The supply pool's bytes at offsets 43 to 49. -/
def SupplyPool.bytes (p : SupplyPool) : List Byte :=
  [toByte (flagWeight p.warnLine.taken 1 + flagWeight p.critLine.taken 2), toByte p.target.code,
    toByte p.applied.code, toByte (flagWeight p.hold.isSome 1)] ++ toBytes p.limit 3

/-- The 67 bytes of the READ_STATUS data (12.4.5). -/
def State.statusBytes (s : State) : List Byte :=
  [toByte s.loader.load.code, toByte s.loader.image.code] ++ toSignedBytes s.thermal.board.temp
    ++ [toByte (flagWeight s.thermal.board.pinned 1 + flagWeight s.thermal.board.onFallback 2)]
    ++ s.scanner.inputs.toList.flatMap SensorRecord.bytes
    ++ s.classifier.matchers.toList.map (fun m => toByte m.state.code)
    ++ s.sequencer.bytes ++ s.supply.bytes ++ toBytes s.grants.poolSum 4
    ++ s.mismatch.chains.toList.flatMap MismatchChain.bytes ++ [toByte s.context.stack.length]

/-- READ_STATUS, served in every load state: BAD_LENGTH for a payload, else the data (R176, R177). -/
def execReadStatus (payload : List Byte) (s : State) : Host.Outcome State Fault Refusal :=
  .next <| s.atWriteEnd 0x60 fun s =>
    if payload.length ≠ 0 then s.reply .badLength [] else s.reply .ok s.statusBytes

end Sys2Proof.Machine
end

