-- ==== Sys2Proof/Config.lean ====
section
/-! DEFINITION. What the manual leaves open and the model leaves free. -/

namespace Sys2Proof.Config

/-- FREE VALUE. At one load completion both the Thermal Estimator (TRIP_CHANGE) and the Supply Pool
Monitor (POOL_CUT) can queue a notice, and R181 fixes no order between the two blocks' reactions
(R169: such notices may arrive in either order). `true` stands for TRIP_CHANGE first. It has no body:
nothing may be proved of its value. See notes/assumptions/3.md. -/
opaque tripChangeFirst : Nat → Bool

end Sys2Proof.Config
end

