-- ==== Sys2Proof/Machine/Classifier.lean ====
section
/-! DEFINITION. Chapter 7: the tables and the matcher write. Commands WRITE_CLASS, SET_SERVICE_MAP,
WRITE_MATCHER and WRITE_COMPLETION. -/

namespace Sys2Proof.Machine

open Sys2Proof

/-- The Burst Classifier's answer to WRITE_CLASS (R105). -/
def writeClassBlock (payload : List Byte) (s : State) : BlockAnswer :=
  match parseClass payload with
  | none => s.refuse .range
  | some (k, e) =>
    (s.withClassifier { s.classifier with classes := s.classifier.classes.set k e }).accept

/-- WRITE_CLASS (R105). -/
def execWriteClass (payload : List Byte) (s : State) : Host.Outcome State Fault Refusal :=
  .next <| s.atWriteEnd 0x14 fun s => s.takeCommand 3 payload (writeClassBlock payload)

/-- The Burst Classifier's answer to SET_SERVICE_MAP (R107). -/
def setServiceMapBlock (payload : List Byte) (s : State) : BlockAnswer :=
  match parseServiceMap payload with
  | none => s.refuse .range
  | some m => (s.withClassifier { s.classifier with service := m }).accept

/-- SET_SERVICE_MAP (R107). -/
def execSetServiceMap (payload : List Byte) (s : State) : Host.Outcome State Fault Refusal :=
  .next <| s.atWriteEnd 0x15 fun s => s.takeCommand 5 payload (setServiceMapBlock payload)

/-- A matcher write begins: the matcher is WRITING with its pending entry, and the write timer starts
(R111). -/
def BurstClassifier.beginWrite (b : BurstClassifier) (i : Fin 6) (e : MatcherEntry) : BurstClassifier :=
  { b with
    matchers := b.matchers.set i { b.matchers[i] with state := .writing, pendingEntry := some e }
    timer := some matcherWriteMicros }

/-- The Burst Classifier's answer to WRITE_MATCHER (R111). -/
def writeMatcherBlock (payload : List Byte) (s : State) : BlockAnswer :=
  match parseMatcher payload with
  | none => s.refuse .range
  | some (i, e) =>
    if s.classifier.writing then s.refuse .busy
    else (s.withClassifier (s.classifier.beginWrite i e)).accept

/-- WRITE_MATCHER (R111). -/
def execWriteMatcher (payload : List Byte) (s : State) : Host.Outcome State Fault Refusal :=
  .next <| s.atWriteEnd 0x16 fun s => s.takeCommand 19 payload (writeMatcherBlock payload)

/-- The matcher a written entry makes: ENABLED or DISABLED at once (R112, R114, R115). -/
def MatcherEntry.matcher (e : MatcherEntry) : Matcher :=
  ⟨if e.enable then .enabled else .disabled, e.mask, e.value, e.cls, none⟩

/-- A WRITING matcher takes its pending entry (R112). -/
def Matcher.complete (m : Matcher) : Matcher :=
  match m.state, m.pendingEntry with
  | .writing, some e => e.matcher
  | _, _ => m

/-- The write completion (R112). -/
def BurstClassifier.completeWrite (b : BurstClassifier) : BurstClassifier :=
  { b with
    matchers := Vector.ofFn fun i : Fin 6 => (b.matchers[i]).complete
    timer := none }

/-- WRITE_COMPLETION (R112). A stopped timer does not expire. -/
def execWriteCompletion (s : State) : Host.Outcome State Fault Refusal :=
  .next <| s.unlessHeld fun s =>
    if s.classifier.timer.isSome then s.withClassifier s.classifier.completeWrite else s

/-- The classifier's tables as the contents give them, no write in flight (R114, R115). -/
def Contents.classifier (k : Contents) : BurstClassifier where
  classes := k.classes
  service := k.service
  matchers := Vector.ofFn fun i : Fin 6 => (k.matchers[i]).matcher
  timer := none

end Sys2Proof.Machine
end

