-- ==== Sys2Proof/Machine/Sensors.lean ====
section
/-! DEFINITION. Chapter 6 and 5.4, 5.6, 5.7: the conversion, its delivery, and the calibration. Commands
CONVERSION_TIMER_EXPIRY and SET_SENSOR_CAL. -/

namespace Sys2Proof.Machine

open Sys2Proof

/-! ### Conversion (R95..R97) -/

/-- A raw reading is valid: neither rail of the converter (R95). -/
def rawValid (raw : BitVec 12) : Bool :=
  raw != 0 && raw != 4095

/-- The converted figure before the clamp (R96, steps 1 to 4). -/
def Calibration.convert (k : Calibration) (raw : BitVec 12) : Int :=
  k.base + shiftRight (((raw.toNat : Int) - k.offset) * k.gain) 12

/-- The sensor record takes a valid reading (R96, R97). -/
def SensorRecord.takeValid (r : SensorRecord) (x : Int) : SensorRecord :=
  { r with
    lastValue := clampTemp x
    lastPinned := pinnedBy x
    lastStatus := .valid
    invalidRun := 0
    lost := false }

/-- The fourth invalid reading of a run is this one (R97). -/
def SensorRecord.losing (r : SensorRecord) : Bool :=
  r.invalidRun == 3

/-- The sensor record takes an invalid reading (R95, R97). -/
def SensorRecord.takeInvalid (r : SensorRecord) : SensorRecord :=
  { r with
    lastStatus := .invalid
    invalidRun := min (r.invalidRun + 1) 4
    lost := r.lost || r.losing }

/-! ### Deliveries (R98) -/

/-- What a delivery carries besides its input number (R98). -/
inductive Delivery where
  | valid (sample : Int) (pinned : Bool)
  | invalid
  | loss
  deriving DecidableEq, Repr

/-- The estimate a blend gives, before the clamp (R79, steps 1 to 3). -/
def ThermalChain.blended (t : ThermalChain) (sample : Int) : Int :=
  t.estimate + Int.tdiv ((sample - t.estimate) * t.coeffs.blendGain) 16

/-- A valid sample is blended, unless the seed is pending (R79). -/
def ThermalChain.blend (t : ThermalChain) (sample : Int) (seedPending : Bool) : ThermalChain :=
  if seedPending then t else t.setEstimate (t.blended sample)

/-- A valid sample on a chain: blended; in UNKNOWN it counts toward the exit, which the second brings
about by the knee and trip test; in the other states a blend re-evaluates the state (R79, R82, R83). -/
def ThermalChain.takeSample (t : ThermalChain) (sample : Int) (seedPending : Bool) : ThermalChain :=
  let u := t.blend sample seedPending
  if t.state = .unknown then
    if 2 ≤ t.validRun + 1 then { u with validRun := 0, state := kneeTripTest u.coeffs u.estimate }
    else { u with validRun := t.validRun + 1 }
  else if seedPending then u
  else u.reevaluate

/-- A delivery acts on a chain's record (R79..R82). -/
def ThermalChain.deliver (t : ThermalChain) (d : Delivery) (seedPending : Bool) : ThermalChain :=
  match d with
  | .valid sample _ => t.takeSample sample seedPending
  | .invalid => if t.state = .unknown then { t with validRun := 0 } else t
  | .loss => { t with state := .unknown, validRun := 0 }

/-- The first valid board sample seeds the board temperature and every estimate (R88). -/
def ThermalEstimator.seed (t : ThermalEstimator) (sample : Int) (pinned : Bool) : ThermalEstimator :=
  ThermalEstimator.reevaluateAll
    { t with
      board := ⟨sample, pinned, false, false⟩
      chains := Vector.ofFn fun c : Fin 4 => { t.chains[c] with estimate := sample, pinned := pinned } }

/-- A delivery acts on the board record (R87, R88). -/
def ThermalEstimator.deliverBoard (t : ThermalEstimator) (d : Delivery) : ThermalEstimator :=
  match d with
  | .valid sample pinned =>
    if t.board.seedPending then t.seed sample pinned
    else { t with board := ⟨sample, pinned, false, t.board.seedPending⟩ }
  | .invalid => t
  | .loss => { t with board := ⟨t.fallback, false, true, false⟩ }

/-- A delivery from an input: inputs 0..3 act on their chains, input 4 on the board record (R87, R98). -/
def ThermalEstimator.deliver (t : ThermalEstimator) (i : Input) (d : Delivery) : ThermalEstimator :=
  if h : i.val < 4 then
    { t with chains := t.chains.set i.val ((t.chains[i.val]).deliver d t.board.seedPending) }
  else t.deliverBoard d

/-- The delivery a reading gives (R97, R98). -/
def SensorRecord.delivery (r : SensorRecord) (k : Calibration) (raw : BitVec 12) : Delivery :=
  if rawValid raw then .valid (clampTemp (k.convert raw)) (pinnedBy (k.convert raw))
  else if r.losing then .loss
  else .invalid

/-- The record after a reading (R96, R97). -/
def SensorRecord.take (r : SensorRecord) (k : Calibration) (raw : BitVec 12) : SensorRecord :=
  if rawValid raw then r.takeValid (k.convert raw) else r.takeInvalid

/-- The event bit of an input: bit n for chain sensor n, bit 4 for the board (R97). -/
def inputBit (i : Input) : BitVec 5 :=
  1#5 <<< i.val

/-- Step 1 of R94: the conversion in flight completes; a loss raises SENSOR_LOST (R97). -/
def State.completeConversion (s : State) (v : Conversion) (raw : BitVec 12) : State :=
  let r := s.scanner.inputs[v.input]
  let t := s.withScanner { s.scanner with inputs := s.scanner.inputs.set v.input (r.take v.cal raw) }
  if r.delivery v.cal raw = .loss then t.raiseEvent .sensorLost (inputBit v.input) else t

/-- Step 3 of R94: the conversion of an input begins with a copy of its calibration. -/
def SensorScanner.begin (r : SensorScanner) (i : Input) : SensorScanner :=
  { r with
    rotation := i
    inFlight := some ⟨i, r.inputs[i].cal⟩
    timer := some conversionMicros }

/-- The three steps of a conversion timer expiry (R94). -/
def State.takeConversion (s : State) (v : Conversion) (raw : BitVec 12) : State :=
  let d := s.scanner.inputs[v.input].delivery v.cal raw
  let completed := s.completeConversion v raw
  let delivered := completed.changeThermal (completed.thermal.deliver v.input d)
  delivered.withScanner (delivered.scanner.begin (v.input + 1))

/-- CONVERSION_TIMER_EXPIRY (R94). A stopped timer does not expire. -/
def execConversionTimerExpiry (raw : BitVec 12) (s : State) : Host.Outcome State Fault Refusal :=
  .next <| s.unlessHeld fun s =>
    match s.scanner.timer, s.scanner.inFlight with
    | some _, some v => s.takeConversion v raw
    | _, _ => s

/-- The Sensor Scanner's answer to SET_SENSOR_CAL (R99). -/
def setSensorCalBlock (payload : List Byte) (s : State) : BlockAnswer :=
  match parseSensorCal payload with
  | none => s.refuse .range
  | some (i, k) =>
    (s.withScanner
      { s.scanner with inputs := s.scanner.inputs.set i { s.scanner.inputs[i] with cal := k } }).accept

/-- SET_SENSOR_CAL (R99, R100). -/
def execSetSensorCal (payload : List Byte) (s : State) : Host.Outcome State Fault Refusal :=
  .next <| s.atWriteEnd 0x13 fun s => s.takeCommand 7 payload (setSensorCalBlock payload)

end Sys2Proof.Machine
end

