-- ==== Sys2Proof/Machine/Sequencer.lean ====
section
/-! DEFINITION. Chapter 8: the Backoff Sequencer. Commands PERIOD_BOUNDARY, WRITE_STEP, SET_SEQUENCER,
SET_TRIGGER, START_SCHEDULE, ABORT_SCHEDULE, FREEZE and THAW. -/

namespace Sys2Proof.Machine

open Sys2Proof

/-! ### Step entry, ramps and the frame (R123..R125) -/

/-- The frame is re-evaluated. FRAME_ENTER carries the current step, FRAME_LEAVE the step whose frame
ended, which was current before the event (R125). -/
def State.reevaluateFrame (s : State) (before : Fin 24) : State :=
  let q := s.sequencer
  let t := s.withSequencer { q with frame := q.frameDue }
  if q.frameDue && !q.frame then t.queueNotice .frameEnter q.current.mask q.step.val
  else if !q.frameDue && q.frame then t.queueNotice .frameLeave q.program[before].mask before.val
  else t

/-- A step becomes current: B0, k, B and the current increment by its ramp (R123). -/
def BackoffSequencer.enter (q : BackoffSequencer) (i : Fin 24) : BackoffSequencer :=
  let p := q.program[i]
  { q with
    step := i
    b0 := q.b
    k := 0
    b := if p.ramp = .hold then p.target else q.b
    increment := if p.ramp = .accel then p.accel else q.increment }

/-- A step is entered, and the frame re-evaluated (R123). -/
def State.enterStep (s : State) (i : Fin 24) : State :=
  (s.withSequencer (s.sequencer.enter i)).reevaluateFrame s.sequencer.step

/-- B under SLOPE after k periods (R124). -/
def slopeBackoff (b0 target k dwell : Nat) : Nat :=
  ((b0 : Int) + Int.tdiv (((target : Int) - b0) * k) dwell).toNat

/-- B moved toward the target by an increment, stopping there (R124). -/
def moveToward (b target increment : Nat) : Nat :=
  if b ≤ target then min target (b + increment) else max target (b - increment)

/-- The current step's ramp moves B once (R124). -/
def BackoffSequencer.ramped (q : BackoffSequencer) : BackoffSequencer :=
  match q.current.ramp with
  | .hold => { q with b := q.current.target }
  | .slope => { q with b := slopeBackoff q.b0 q.current.target q.k q.current.dwell }
  | .accel =>
    { q with
      b := moveToward q.b q.current.target q.increment
      increment := min (q.increment + q.current.leap) 127 }

/-! ### Runs (R126, R127, R129..R131) -/

/-- N is computed, and SCHEDULE_ENDING queued when it equals the lead (R126). -/
def State.testLead (s : State) : State :=
  let q := s.sequencer
  if 0 < q.settings.lead ∧ q.remaining = q.settings.lead then
    s.queueNotice .scheduleEnding q.current.mask q.settings.lead
  else s

/-- A run begins in RUNNING (R127). -/
def State.beginRun (s : State) (r : RunParams) : State :=
  let taken := s.withSequencer { s.sequencer with run := r, repeatsLeft := r.repeats, runCount := 0 }
  let entered := taken.enterStep r.start
  let running := entered.withSequencer { entered.sequencer with state := .running }
  let told := running.queueNotice .scheduleStart running.sequencer.current.mask
    (r.start.val * 256 + r.stop.val)
  (told.reevaluateFrame r.start).testLead

/-- A pending start's run begins; the pending start becomes absent (R127, step 1). -/
def State.beginPending (s : State) (r : RunParams) : State :=
  (s.withSequencer { s.sequencer with pendingStart := none }).beginRun r

/-- The run state of IDLE: B and the counts at 0; the current step keeps its index (R130, R133). -/
def BackoffSequencer.idled (q : BackoffSequencer) : BackoffSequencer :=
  { q with
    state := .idle
    b := 0
    k := 0
    runCount := 0
    repeatsLeft := 0
    increment := 0
    holdCount := 0 }

/-- The sequencer goes to IDLE: frame re-evaluated, SCHEDULE_END queued and recorded, with a mask and
the value 0 for completion or 1 for an abort (R130, R133). -/
def State.goIdle (s : State) (mask : BitVec 4) (value : Nat) : State :=
  let idle := (s.withSequencer s.sequencer.idled).reevaluateFrame s.sequencer.step
  (idle.queueNotice .scheduleEnd mask value).raiseEvent .scheduleEnd (eventMask mask)

/-- The sequencer goes to IDLE as completion (R130). -/
def State.completeRun (s : State) : State :=
  s.goIdle s.sequencer.current.mask 0

/-- A run ends: into a pending start, into HOLDING, or into IDLE as completion (R130). -/
def State.endRun (s : State) : State :=
  match s.sequencer.pendingStart with
  | some r => s.beginPending r
  | none =>
    if 0 < s.sequencer.settings.holdAfter then
      (s.withSequencer
        { s.sequencer with
          state := .holding
          holdCount := s.sequencer.settings.holdAfter }).reevaluateFrame s.sequencer.step
    else s.completeRun

/-- The running boundary's counts and ramp (R129, steps 1 and 2). -/
def BackoffSequencer.advanced (q : BackoffSequencer) : BackoffSequencer :=
  BackoffSequencer.ramped { q with k := q.k + 1, runCount := count16 q.runCount }

/-- A period boundary in RUNNING (R129). -/
def State.runningBoundary (s : State) : State :=
  let t := s.withSequencer s.sequencer.advanced
  let q := t.sequencer
  if q.settings.breakpoint ≠ 0 ∧ q.runCount = q.settings.breakpoint then
    (t.withSequencer { q with repeatsLeft := 0 }).endRun
  else if q.k = q.current.dwell then
    if q.step = q.run.stop then
      if 0 < q.repeatsLeft then
        ((t.withSequencer { q with repeatsLeft := q.repeatsLeft - 1 }).enterStep q.run.start).testLead
      else t.endRun
    else (t.enterStep (q.step + 1)).testLead
  else t.testLead

/-- A period boundary in HOLDING (R131). -/
def State.holdingBoundary (s : State) : State :=
  match s.sequencer.pendingStart with
  | some r => s.beginPending r
  | none =>
    let t := s.withSequencer { s.sequencer with holdCount := s.sequencer.holdCount - 1 }
    if t.sequencer.holdCount = 0 then t.completeRun else t

/-- A period boundary, by the sequencer's state (R122). -/
def State.periodBoundary (s : State) : State :=
  match s.sequencer.state with
  | .idle => s
  | .frozen => s
  | .starting => s.beginRun s.sequencer.run
  | .running => s.runningBoundary
  | .holding => s.holdingBoundary

/-- PERIOD_BOUNDARY (R122). A stopped timer does not expire. -/
def execPeriodBoundary (s : State) : Host.Outcome State Fault Refusal :=
  .next <| s.unlessHeld fun s => if s.sequencer.timer.isSome then s.periodBoundary else s

/-! ### Commands -/

/-- A step index lies in the range of the active run or of the pending start (R121, order 4). -/
def BackoffSequencer.protects (q : BackoffSequencer) (i : Fin 24) : Bool :=
  (q.state != .idle && q.run.covers i) || q.pendingStart.any (·.covers i)

/-- The sequencer's answer to WRITE_STEP (R121). -/
def writeStepBlock (payload : List Byte) (s : State) : BlockAnswer :=
  match parseStep payload with
  | none => s.refuse .range
  | some (i, p) =>
    if s.sequencer.protects i then s.refuse .wrongState
    else (s.withSequencer { s.sequencer with program := s.sequencer.program.set i p }).accept

/-- WRITE_STEP (R121). -/
def execWriteStep (payload : List Byte) (s : State) : Host.Outcome State Fault Refusal :=
  .next <| s.atWriteEnd 0x20 fun s => s.takeCommand 8 payload (writeStepBlock payload)

/-- The settings are written, and the period timer restarted when the period changes (R118). -/
def BackoffSequencer.setSettings (q : BackoffSequencer) (x : SequencerSettings) : BackoffSequencer :=
  { q with
    settings := x
    timer := if x.period = q.settings.period then q.timer else some x.micros }

/-- The sequencer's answer to SET_SEQUENCER (R118). -/
def setSequencerBlock (payload : List Byte) (s : State) : BlockAnswer :=
  match parseSequencer payload with
  | none => s.refuse .range
  | some x =>
    if s.sequencer.state = .idle then (s.withSequencer (s.sequencer.setSettings x)).accept
    else s.refuse .wrongState

/-- SET_SEQUENCER (R118). -/
def execSetSequencer (payload : List Byte) (s : State) : Host.Outcome State Fault Refusal :=
  .next <| s.atWriteEnd 0x21 fun s => s.takeCommand 5 payload (setSequencerBlock payload)

/-- The sequencer's answer to SET_TRIGGER (R119). -/
def setTriggerBlock (payload : List Byte) (s : State) : BlockAnswer :=
  match parseTrigger payload with
  | none => s.refuse .range
  | some (i, r) =>
    (s.withSequencer { s.sequencer with triggers := s.sequencer.triggers.set i r }).accept

/-- SET_TRIGGER (R119). -/
def execSetTrigger (payload : List Byte) (s : State) : Host.Outcome State Fault Refusal :=
  .next <| s.atWriteEnd 0x22 fun s => s.takeCommand 4 payload (setTriggerBlock payload)

/-- The dispositions of START_SCHEDULE (12.3). -/
inductive Disposition where
  | started
  | queued
  | replaced
  deriving DecidableEq, Repr

/-- The code of a disposition (12.3). -/
def Disposition.code : Disposition → Nat
  | .started => 0
  | .queued => 1
  | .replaced => 2

/-- The disposition of a start taken in the sequencer's state (R128). -/
def BackoffSequencer.disposition (q : BackoffSequencer) : Disposition :=
  match q.state with
  | .idle => .started
  | .starting => .replaced
  | .running => if q.pendingStart.isSome then .replaced else .queued
  | .frozen => if q.pendingStart.isSome then .replaced else .queued
  | .holding => if q.pendingStart.isSome then .replaced else .queued

/-- The sequencer's answer to START_SCHEDULE (R128). -/
def startScheduleBlock (payload : List Byte) (s : State) : BlockAnswer :=
  match parseRun payload 0 with
  | none => s.refuse .range
  | some r =>
    ⟨.ok, [toByte s.sequencer.disposition.code], s.withSequencer (s.sequencer.takeStart r)⟩

/-- START_SCHEDULE (R128). -/
def execStartSchedule (payload : List Byte) (s : State) : Host.Outcome State Fault Refusal :=
  .next <| s.atWriteEnd 0x23 fun s => s.takeCommand 3 payload (startScheduleBlock payload)

/-- The chain mask of an abort: the current step's, or 0 in STARTING (R133). -/
def BackoffSequencer.abortMask (q : BackoffSequencer) : BitVec 4 :=
  if q.state = .starting then 0 else q.current.mask

/-- The sequencer's answer to ABORT_SCHEDULE (R133). -/
def abortScheduleBlock (s : State) : BlockAnswer :=
  if s.sequencer.state = .idle then s.refuse .wrongState
  else
    ((s.withSequencer { s.sequencer with pendingStart := none }).goIdle s.sequencer.abortMask 1).accept

/-- ABORT_SCHEDULE (R133). -/
def execAbortSchedule (payload : List Byte) (s : State) : Host.Outcome State Fault Refusal :=
  .next <| s.atWriteEnd 0x24 fun s => s.takeCommand 0 payload abortScheduleBlock

/-- The sequencer enters FROZEN and remembers its state (R132). -/
def State.freezeFrom (s : State) (was : RememberedState) : State :=
  (s.withSequencer { s.sequencer with state := .frozen, remembered := some was }).reevaluateFrame
    s.sequencer.step

/-- The sequencer's answer to FREEZE (R132). -/
def freezeBlock (s : State) : BlockAnswer :=
  match s.sequencer.state with
  | .running => (s.freezeFrom .running).accept
  | .holding => (s.freezeFrom .holding).accept
  | .idle => s.refuse .wrongState
  | .starting => s.refuse .wrongState
  | .frozen => s.refuse .wrongState

/-- FREEZE (R132). -/
def execFreeze (payload : List Byte) (s : State) : Host.Outcome State Fault Refusal :=
  .next <| s.atWriteEnd 0x25 fun s => s.takeCommand 0 payload freezeBlock

/-- The state a thaw returns to (R132). -/
def thawedState : Option RememberedState → SequencerState
  | some .holding => .holding
  | some .running => .running
  | none => .running

/-- The sequencer's answer to THAW (R132). The remembered state is kept, as every figure is. -/
def thawBlock (s : State) : BlockAnswer :=
  if s.sequencer.state = .frozen then
    ((s.withSequencer
      { s.sequencer with state := thawedState s.sequencer.remembered }).reevaluateFrame
        s.sequencer.step).accept
  else s.refuse .wrongState

/-- THAW (R132). -/
def execThaw (payload : List Byte) (s : State) : Host.Outcome State Fault Refusal :=
  .next <| s.atWriteEnd 0x26 fun s => s.takeCommand 0 payload thawBlock

/-! ### Load completion and soft reset -/

/-- The sequencer takes the contents' program, settings and trigger map, and its timer starts with the
applied period (R138). -/
def BackoffSequencer.load (q : BackoffSequencer) (k : Contents) : BackoffSequencer :=
  { q with
    program := k.program
    settings := k.sequencer
    triggers := k.triggers
    timer := some k.sequencer.micros }

/-- The sequencer after a soft reset (R139). The run parameters stand; IDLE reads none of them. -/
def BackoffSequencer.restore (q : BackoffSequencer) (k : Contents) : BackoffSequencer :=
  { q.idled.load k with
    remembered := none
    step := 0
    b0 := 0
    pendingStart := none
    frame := false }

end Sys2Proof.Machine
end

