-- ==== Sys2Proof/Machine/Thermal.lean ====
section
/-! DEFINITION. Chapter 5: the model step and the coefficients. Commands MODEL_STEP and SET_THERMAL. -/

namespace Sys2Proof.Machine

open Sys2Proof

/-! ### The model step (R78) -/

/-- The rise of a heat input Q (R78, step 2). -/
def ThermalCoeffs.rise (k : ThermalCoeffs) (q : Nat) : Nat :=
  (q * k.heatGain) / 2 ^ 24

/-- The fall of an estimate toward the board temperature (R78, step 3). -/
def ThermalCoeffs.fall (k : ThermalCoeffs) (estimate board : Int) : Int :=
  shiftRight ((estimate - board) * k.coolGain) 8

/-- A chain's model step with heat input Q (R78, steps 2 to 5). -/
def ThermalChain.modelStep (t : ThermalChain) (q : Nat) (board : Int) : ThermalChain :=
  (t.setEstimate (t.estimate + t.coeffs.rise q - t.coeffs.fall t.estimate board)).reevaluate

/-- Every heat-in accumulator is handed over and becomes 0 (R63). -/
def WindowUnit.heatTaken (u : WindowUnit) : WindowUnit :=
  { u with chains := Vector.ofFn fun c : Fin 4 => { u.chains[c] with heatIn := 0 } }

/-- The four chains step, each with its own record and heat input (R77, R78). -/
def ThermalEstimator.modelStep (t : ThermalEstimator) (u : WindowUnit) : ThermalEstimator :=
  { t with
    chains := Vector.ofFn fun c : Fin 4 => (t.chains[c]).modelStep u.chains[c].heatIn t.board.temp }

/-- One model step of the Thermal Estimator (R77, R78). -/
def State.takeModelStep (s : State) : State :=
  (s.withWindows s.windows.heatTaken).changeThermal (s.thermal.modelStep s.windows)

/-- MODEL_STEP (R77, R78). A stopped timer does not expire. -/
def execModelStep (s : State) : Host.Outcome State Fault Refusal :=
  .next <| s.unlessHeld fun s => if s.thermal.timer.isSome then s.takeModelStep else s

/-! ### SET_THERMAL (R75, R76) -/

/-- The board record takes a new fallback when it holds the fallback (R76, step 2). -/
def BoardRecord.newFallback (b : BoardRecord) (fallback : Int) : BoardRecord :=
  if b.onFallback then { b with temp := fallback, pinned := false } else b

/-- The fallback and the step period are written; the step timer is restarted when the period differs
(R76, steps 2 and 3). -/
def ThermalEstimator.setWide (t : ThermalEstimator) (fallback : Int) (period : StepPeriod) :
    ThermalEstimator :=
  { t with
    board := t.board.newFallback fallback
    fallback := fallback
    period := period
    timer := if period = t.period then t.timer else some period.micros }

/-- A chain's coefficients are written and its state re-evaluated (R76, steps 1 and 4). -/
def ThermalEstimator.setCoeffs (t : ThermalEstimator) (c : Chain) (k : ThermalCoeffs) :
    ThermalEstimator :=
  { t with chains := t.chains.set c ({ t.chains[c] with coeffs := k } : ThermalChain).reevaluate }

/-- The Thermal Estimator's answer to SET_THERMAL (R75, R76). -/
def setThermalBlock (payload : List Byte) (s : State) : BlockAnswer :=
  match parseThermal payload with
  | none => s.refuse .range
  | some p =>
    (s.changeThermal ((s.thermal.setWide p.fallback p.period).setCoeffs p.chain p.coeffs)).accept

/-- SET_THERMAL (R75, R76). -/
def execSetThermal (payload : List Byte) (s : State) : Host.Outcome State Fault Refusal :=
  .next <| s.atWriteEnd 0x12 fun s => s.takeCommand 15 payload (setThermalBlock payload)

end Sys2Proof.Machine
end

