-- ==== Sys2Proof/Machine/Windows.lean ====
section
/-! DEFINITION. Chapter 4: bucket expiry and the window shape. Commands BUCKET_EXPIRY and
SET_WINDOW_SHAPE. -/

namespace Sys2Proof.Machine

open Sys2Proof

/-- The bucket at a position leaves the window sum and is cleared (R64, steps 1 and 2). -/
def WindowChain.drop (w : WindowChain) (position : Nat) : WindowChain :=
  { w with
    sum := w.sum - (w.ring.getD position ⟨0, false⟩).energy
    ring := w.ring.set position ⟨0, false⟩ }

/-- A ring is emptied to `n` clear buckets; residue and heat-in stand (R68). -/
def WindowChain.emptied (w : WindowChain) (n : Nat) : WindowChain :=
  { w with ring := List.replicate n ⟨0, false⟩, sum := 0 }

/-- The position of the oldest bucket: the one after the current position (R59). -/
def WindowUnit.oldest (u : WindowUnit) : Nat :=
  (u.current + 1) % u.shape.count

/-- A bucket expiry: on each ring the oldest bucket is dropped and becomes current (R64). -/
def WindowUnit.expire (u : WindowUnit) : WindowUnit :=
  { u with
    current := u.oldest
    chains := Vector.ofFn fun c : Fin 4 => (u.chains[c]).drop u.oldest }

/-- A window shape is applied: every ring emptied, position 0 current, the timer restarted with the new
period (R68). -/
def WindowUnit.reshape (u : WindowUnit) (shape : WindowShape) : WindowUnit where
  shape := shape
  current := 0
  timer := some shape.period.micros
  chains := Vector.ofFn fun c : Fin 4 => (u.chains[c]).emptied shape.count

/-- The shape applied at load completion: nothing changes when it is the shape in force (R71). -/
def WindowUnit.load (u : WindowUnit) (shape : WindowShape) : WindowUnit :=
  if shape = u.shape then u else u.reshape shape

/-- The shape restored by a soft reset, with every window, residue and heat-in accumulator at 0 (R72). -/
def WindowUnit.restore (shape : WindowShape) : WindowUnit where
  shape := shape
  current := 0
  timer := some shape.period.micros
  chains := Vector.replicate 4 ⟨List.replicate shape.count ⟨0, false⟩, 0, 0, 0⟩

/-- BUCKET_EXPIRY (R64). A stopped timer does not expire. -/
def execBucketExpiry (s : State) : Host.Outcome State Fault Refusal :=
  .next <| s.unlessHeld fun s =>
    if s.windows.timer.isSome then s.withWindows s.windows.expire else s

/-- The Energy Window Unit's answer to SET_WINDOW_SHAPE (R67, R68). -/
def setWindowShapeBlock (payload : List Byte) (s : State) : BlockAnswer :=
  match parseWindowShape payload with
  | none => s.refuse .range
  | some shape => (s.withWindows (s.windows.reshape shape)).accept

/-- SET_WINDOW_SHAPE (R67, R68). -/
def execSetWindowShape (payload : List Byte) (s : State) : Host.Outcome State Fault Refusal :=
  .next <| s.atWriteEnd 0x11 fun s => s.takeCommand 2 payload (setWindowShapeBlock payload)

end Sys2Proof.Machine
end

