-- ==== Sys2Proof/Machine/Startup.lean ====
section
/-! DEFINITION. Chapter 13: power-on, the image load and soft reset. Commands POWER_ON, RST_N_ASSERT,
LOAD_COMPLETION and SOFT_RESET. -/

namespace Sys2Proof.Machine

open Sys2Proof

/-! ### Power-on (R148, R179) -/

/-- Both overload pins are sampled; a target above the applied level is a rise (R148). -/
def State.sampleLines (s : State) : State :=
  (s.withSupply s.supply.sampled).reformTarget

/-- POWER_ON: every block in its power-on state, the bucket timer started, the address taken, the
overload pins sampled, the load begun (R70, R148, R175, R179). -/
def execPowerOn (addrSel ovlWarn ovlCrit : Bool) (s : State) : Host.Outcome State Fault Refusal :=
  .next (s.powerOn false (some 125000) ovlWarn ovlCrit (policyAddress addrSel)).sampleLines

/-- RST_N_ASSERT: the part is held in its power-on state, and a load in progress is abandoned (R179). -/
def execRstNAssert (s : State) : Host.Outcome State Fault Refusal :=
  .next (s.powerOn true none s.supply.warnLine.pin s.supply.critLine.pin s.policy.address)

/-! ### Load completion (R181) -/

/-- The contents the load chooses: the image, or the built-in defaults in its place (R180, R181). -/
def chosenContents (flash : List Word16) : Contents :=
  (judgeImage flash).getD Contents.builtIn

/-- The image status the load leaves (R181, step 2). -/
def chosenStatus (flash : List Word16) : ImageStatus :=
  if (judgeImage flash).isSome then .imageUsed else .defaultsUsed

/-- The coefficients, fallback and step period of the contents, no state re-evaluated yet (R89). -/
def ThermalEstimator.withContents (t : ThermalEstimator) (k : Contents) : ThermalEstimator :=
  { t with
    chains := Vector.ofFn fun c : Fin 4 => { t.chains[c] with coeffs := k.coeffs[c] }
    fallback := k.fallback
    period := k.stepPeriod }

/-- The scanner's calibrations, and the conversion of input 0 begun (R101). -/
def SensorScanner.load (r : SensorScanner) (k : Contents) : SensorScanner :=
  SensorScanner.begin
    { r with inputs := Vector.ofFn fun i : Fin 5 => { r.inputs[i] with cal := k.sensors[i] } } 0

/-- Steps 1 to 4 of R181, but for what the blocks' reactions raise: READY, the image status, the
retained copy, and each block's section applied. -/
def State.applyLoad (s : State) (k : Contents) (status : ImageStatus) : State :=
  { s with
    loader := ⟨.ready, status, some k⟩
    scanner := s.scanner.load k
    thermal := { s.thermal.withContents k with timer := some k.stepPeriod.micros }
    classifier := k.classifier
    sequencer := s.sequencer.load k
    context := { s.context with current := k.context }
    windows := s.windows.load k.shape
    supply := { s.supply with settings := k.overload }
    mismatch := { s.mismatch with settings := k.mismatch }
    events := { s.events with alertMask := k.alertMask } }

/-- The Thermal Estimator's reaction: every state re-evaluated, the changes announced (R89, step 2). -/
def State.reevaluateThermal (s : State) : State :=
  s.changeThermal s.thermal.reevaluateAll

/-- The blocks' reactions queue the same two notices in either order, and the order is open: some chain's
tripped condition changes, and the new E, different, lies below the pool sum. -/
def State.loadNoticesOpen (s : State) : Bool :=
  let e := effectiveLimit s.supply.applied s.context.current.poolLimit s.supply.settings
  decide (maskOf (tripChanged s.thermal s.thermal.reevaluateAll) ≠ 0)
    && decide (e ≠ s.supply.limit ∧ e < s.grants.poolSum)

/-- The reactions of the Thermal Estimator and of the Supply Pool Monitor to the load (R89, R148). Where
both queue a notice their order is a free value (Config.tripChangeFirst). -/
def State.reactToLoad (s : State) : State :=
  if s.loadNoticesOpen then
    let t := s.withFreeCount (s.freeCount + 1)
    if Config.tripChangeFirst s.freeCount then t.reevaluateThermal.recomputeLimit
    else t.recomputeLimit.reevaluateThermal
  else s.reevaluateThermal.recomputeLimit

/-- The load completes with the chosen contents; IMAGE_BAD is raised when they are the defaults
(R181). -/
def State.completeLoad (s : State) (k : Contents) (status : ImageStatus) : State :=
  let t := (s.applyLoad k status).reactToLoad
  if status = .defaultsUsed then t.raiseEvent .imageBad 0 else t

/-- LOAD_COMPLETION (R180, R181). A part that is not LOADING has no load in progress. -/
def execLoadCompletion (flash : List Word16) (s : State) : Host.Outcome State Fault Refusal :=
  .next <| s.unlessHeld fun s =>
    if s.isLoading then s.completeLoad (chosenContents flash) (chosenStatus flash) else s

/-! ### Soft reset (R182) -/

/-- The Event Latch cleared, with the retained alert mask (R168). -/
def EventLatch.restore (k : Contents) : EventLatch :=
  { EventLatch.powerOn with alertMask := k.alertMask }

/-- The coefficients, fallback and step period restored, a fallback T_board moved and the step timer
restarted when the period differs; no state re-evaluated yet (R90). -/
def ThermalEstimator.restore (t : ThermalEstimator) (k : Contents) : ThermalEstimator :=
  { t.withContents k with
    board := t.board.newFallback k.fallback
    timer := if k.stepPeriod = t.period then t.timer else some k.stepPeriod.micros }

/-- Every block returned to the retained contents, but for what the soft reset itself raises: the table
of R182. -/
def State.restored (s : State) (k : Contents) : State :=
  { s with
    link := { s.link with epoch := s.link.epoch + 1 }
    engine := Vector.replicate 4 EngineChain.zero
    grants := ⟨Vector.replicate 4 GrantChain.zero, 0⟩
    windows := WindowUnit.restore k.shape
    thermal := s.thermal.restore k
    classifier := k.classifier
    sequencer := s.sequencer.restore k
    supply := { s.supply.sampled with settings := k.overload, hold := none }
    mismatch := ⟨k.mismatch, Vector.replicate 4 ⟨.clear, 0, 0⟩⟩
    context := ⟨k.context, []⟩
    events := EventLatch.restore k
    notices := [] }

/-- The re-sampled target is applied at once; a target above the level applied before is a rise, with
its event and trigger; E is recomputed (R148). -/
def State.applySampled (s : State) : State :=
  let applied := s.applyLevel s.supply.target
  let told := if s.supply.applied.code < s.supply.target.code then applied.announceLevel s.supply.target
    else applied
  told.recomputeLimit

/-- One TRIP_CHANGE when any chain is tripped, its mask and value the tripped mask (R90). -/
def State.tellTripped (s : State) : State :=
  if s.thermal.trippedMask = 0 then s
  else s.queueNotice .tripChange s.thermal.trippedMask s.thermal.trippedMask.toNat

/-- A soft reset: the restore, IMAGE_BAD again on defaults, the overload level found on re-sampling, then
the trips found on re-evaluation and the tripped chains' notice (R90, R148, R166, R168, R182). -/
def State.softReset (s : State) : State :=
  let restored := s.restored s.retainedContents
  let marked := if restored.onDefaults then restored.raiseEvent .imageBad 0 else restored
  marked.applySampled.reevaluateThermal.tellTripped

/-- The Image Loader's answer to SOFT_RESET (R182). -/
def softResetBlock (s : State) : BlockAnswer :=
  s.softReset.accept

/-- SOFT_RESET (R182). -/
def execSoftReset (payload : List Byte) (s : State) : Host.Outcome State Fault Refusal :=
  .next <| s.atWriteEnd 0x61 fun s => s.takeCommand 0 payload softResetBlock

end Sys2Proof.Machine
end

