-- ==== Sys2Proof/Machine/Dispatch.lean ====
section
/-! DEFINITION. The meaning of every command: one arm per constructor of Instr. -/

namespace Sys2Proof.Machine

open Sys2Proof

def exec (i : Instr) (s : State) : Host.Outcome State Fault Refusal :=
  match i with
  | .powerOn addrSel ovlWarn ovlCrit => Sys2Proof.Machine.execPowerOn addrSel ovlWarn ovlCrit s
  | .rstNAssert => Sys2Proof.Machine.execRstNAssert s
  | .loadCompletion flash => Sys2Proof.Machine.execLoadCompletion flash s
  | .burstReq chain tag preq duration descriptor => Sys2Proof.Machine.execBurstReq chain tag preq duration descriptor s
  | .burstClose chain tag pact dact reflect => Sys2Proof.Machine.execBurstClose chain tag pact dact reflect s
  | .readNotice => Sys2Proof.Machine.execReadNotice s
  | .readLinkStatus => Sys2Proof.Machine.execReadLinkStatus s
  | .linkReset => Sys2Proof.Machine.execLinkReset s
  | .badFrame kind length => Sys2Proof.Machine.execBadFrame kind length s
  | .shortFrame received => Sys2Proof.Machine.execShortFrame received s
  | .lapse chain tag => Sys2Proof.Machine.execLapse chain tag s
  | .bucketExpiry => Sys2Proof.Machine.execBucketExpiry s
  | .modelStep => Sys2Proof.Machine.execModelStep s
  | .conversionTimerExpiry raw => Sys2Proof.Machine.execConversionTimerExpiry raw s
  | .periodBoundary => Sys2Proof.Machine.execPeriodBoundary s
  | .ovlPinChange line asserted => Sys2Proof.Machine.execOvlPinChange line asserted s
  | .debounceExpiry line => Sys2Proof.Machine.execDebounceExpiry line s
  | .recoveryHoldExpiry => Sys2Proof.Machine.execRecoveryHoldExpiry s
  | .writeCompletion => Sys2Proof.Machine.execWriteCompletion s
  | .readChain payload => Sys2Proof.Machine.execReadChain payload s
  | .setWindowShape payload => Sys2Proof.Machine.execSetWindowShape payload s
  | .setThermal payload => Sys2Proof.Machine.execSetThermal payload s
  | .setSensorCal payload => Sys2Proof.Machine.execSetSensorCal payload s
  | .writeClass payload => Sys2Proof.Machine.execWriteClass payload s
  | .setServiceMap payload => Sys2Proof.Machine.execSetServiceMap payload s
  | .writeMatcher payload => Sys2Proof.Machine.execWriteMatcher payload s
  | .writeStep payload => Sys2Proof.Machine.execWriteStep payload s
  | .setSequencer payload => Sys2Proof.Machine.execSetSequencer payload s
  | .setTrigger payload => Sys2Proof.Machine.execSetTrigger payload s
  | .startSchedule payload => Sys2Proof.Machine.execStartSchedule payload s
  | .abortSchedule payload => Sys2Proof.Machine.execAbortSchedule payload s
  | .freeze payload => Sys2Proof.Machine.execFreeze payload s
  | .thaw payload => Sys2Proof.Machine.execThaw payload s
  | .setOverload payload => Sys2Proof.Machine.execSetOverload payload s
  | .setMismatch payload => Sys2Proof.Machine.execSetMismatch payload s
  | .setChain payload => Sys2Proof.Machine.execSetChain payload s
  | .setPoolLimit payload => Sys2Proof.Machine.execSetPoolLimit payload s
  | .setLifetime payload => Sys2Proof.Machine.execSetLifetime payload s
  | .setTriggerEnable payload => Sys2Proof.Machine.execSetTriggerEnable payload s
  | .pushContext payload => Sys2Proof.Machine.execPushContext payload s
  | .popContext payload => Sys2Proof.Machine.execPopContext payload s
  | .peekContext payload => Sys2Proof.Machine.execPeekContext payload s
  | .readEvents payload => Sys2Proof.Machine.execReadEvents payload s
  | .clearEvents payload => Sys2Proof.Machine.execClearEvents payload s
  | .setAlertMask payload => Sys2Proof.Machine.execSetAlertMask payload s
  | .readStatus payload => Sys2Proof.Machine.execReadStatus payload s
  | .softReset payload => Sys2Proof.Machine.execSoftReset payload s
  | .badCommand command payload => Sys2Proof.Machine.execBadCommand command payload s
  | .commandByteArrival command => Sys2Proof.Machine.execCommandByteArrival command s

end Sys2Proof.Machine
end

