-- ==== Sys2Proof/Machine/Ports.lean ====
section
/-! DEFINITION. The two ports as their controllers see them: a Burst Link frame and a Policy Port write put
the commands they spell before the part, and a read returns what the part holds for it (12.1, 12.2). -/

namespace Sys2Proof.Machine

open Sys2Proof

/-- The modem sends a frame: what it comes to is the next command the part takes (R172). -/
def State.withLinkFrame (s : State) (bytes : List Byte) : State :=
  s.withPending (linkFrame bytes :: s.pending)

/-- The next `n` bytes the controller clocks out in the response part; a part held in reset does not answer
(R172, R179). -/
def State.linkRead (s : State) (n : Nat) : Option (List Byte) :=
  if s.rstHeld then none else some ((List.range n).map s.link.byteOut)

/-- The thermal manager writes these bytes to a target address: at the port's own address the events of the
write are the next the part takes; another address is not the part's (R175). -/
def State.withPolicyWrite (s : State) (address : BitVec 7) (bytes : List Byte) : State :=
  if address = s.policy.address then s.withPending (policyWrite bytes ++ s.pending) else s

/-- A read transfer of `n` bytes from a target address. It changes nothing; at another address, and while
the part is held in reset, nothing answers (R175, R179). -/
def State.policyRead (s : State) (address : BitVec 7) (n : Nat) : Option (List Byte) :=
  if s.rstHeld = false ∧ address = s.policy.address then
    some ((List.range n).map s.policy.response.byteOut)
  else none

end Sys2Proof.Machine
end

