-- ==== Sys2Proof/Safety.lean ====
section
/-! DEFINITION. What counts as a lawful state: the laws of the device the spec states, each with what a
step needs to keep it. And what the statements name: the command bytes and payload lengths of the Policy
Port, the places of the image's sections, and what a change of the thermal states raises. -/

namespace Sys2Proof.Machine

open Sys2Proof

/-- The part is out of reset and READY, and the write transfer that carried this command byte is in flight,
so that the Policy Port serves the command when the write ends (R175, R176, R179). -/
def State.Serving (s : State) (command : Byte) : Prop :=
  s.rstHeld = false ∧ s.loader.load = .ready ∧ s.policy.inFlight = some command

/-- Every chain of a machine-wide sum, added. -/
def sumOverChains (f : Chain → Nat) : Nat :=
  f 0 + f 1 + f 2 + f 3

/-! ### Open grants (R38, R41) -/

/-- A chain's list holds at most two records of different tags, and its reserved energy is the sum of
their projected energies. -/
def GrantChain.Lawful (g : GrantChain) : Prop :=
  g.opened.length ≤ 2 ∧ (g.opened.map (·.tag)).Nodup ∧ g.reserved = (g.opened.map (·.projected)).sum

/-- The grant law: every chain's list is lawful, and the pool sum is the sum of the linear powers of the
records in all four lists. -/
def State.GrantLaw (s : State) : Prop :=
  (∀ c : Chain, s.grants.chains[c].Lawful) ∧
    s.grants.poolSum = sumOverChains fun c => (s.grants.chains[c].opened.map (·.power)).sum

/-! ### Energy windows (R9, R14, R59, R60) -/

/-- A chain's account for a ring of `n` positions: the window sum is the sum of the buckets, no bucket
passes its maximum, a pinned bucket holds it, and the residue is below one eu. -/
def WindowChain.Lawful (w : WindowChain) (n : Nat) : Prop :=
  w.ring.length = n ∧ w.sum = (w.ring.map (·.energy)).sum ∧
    (∀ b ∈ w.ring, b.energy ≤ max32 ∧ (b.pinned = true → b.energy = max32)) ∧
    w.residue < 64 ∧ w.heatIn ≤ max32

/-- A window shape is one SET_WINDOW_SHAPE accepts. -/
def WindowShape.Lawful (x : WindowShape) : Prop :=
  8 ≤ x.count ∧ x.count ≤ 32

/-- The window law, with the retained shape a soft reset restores. -/
def State.WindowLaw (s : State) : Prop :=
  (∀ c : Chain, s.windows.chains[c].Lawful s.windows.shape.count) ∧
    s.windows.current < s.windows.shape.count ∧ s.windows.shape.Lawful ∧
    s.retainedContents.shape.Lawful

/-! ### Temperatures (R11, R73) -/

/-- A figure lies in the temperature range. -/
def inTempRange (t : Int) : Prop :=
  -640 ≤ t ∧ t ≤ 2400

/-- The temperatures among a chain's coefficients: its knee and its trip. -/
def ThermalCoeffs.InTempRange (k : ThermalCoeffs) : Prop :=
  inTempRange k.knee ∧ inTempRange k.trip

/-- The temperature law: every estimate, knee and trip, the board temperature, the fallback, every last
sample, every calibration base, that of the conversion in flight among them, and the retained knees, trips,
fallback and bases lie in the range. -/
def State.TemperatureLaw (s : State) : Prop :=
  (∀ c : Chain, inTempRange s.thermal.chains[c].estimate ∧ s.thermal.chains[c].coeffs.InTempRange) ∧
    inTempRange s.thermal.board.temp ∧ inTempRange s.thermal.fallback ∧
    (∀ i : Input, inTempRange s.scanner.inputs[i].lastValue ∧ inTempRange s.scanner.inputs[i].cal.base) ∧
    (∀ v : Conversion, s.scanner.inFlight = some v → inTempRange v.cal.base) ∧
    (∀ c : Chain, s.retainedContents.coeffs[c].InTempRange) ∧ inTempRange s.retainedContents.fallback ∧
    ∀ i : Input, inTempRange s.retainedContents.sensors[i].base

/-! ### The sequencer (R117, R120, R125, R134) -/

/-- Every step of a program has a target of at most 127 and lasts at least one period. -/
def LawfulProgram (program : Vector ProgramStep 24) : Prop :=
  ∀ i : Fin 24, program[i].target ≤ 127 ∧ 1 ≤ program[i].dwell

/-- The sequencer is in a run that has begun. -/
def BackoffSequencer.InRun (q : BackoffSequencer) : Prop :=
  q.state = .running ∨ q.state = .frozen ∨ q.state = .holding

/-- The sequencer's next boundary, or the one after the thaw, is a running boundary. -/
def BackoffSequencer.Stepping (q : BackoffSequencer) : Prop :=
  q.state = .running ∨ (q.state = .frozen ∧ q.remembered ≠ some .holding)

/-- The sequencer law: B within 0 to 127, and 0 in IDLE and STARTING; the frame on exactly while the
current step carries its flag in RUNNING or FROZEN; the current step in the run's range; the step's
dwell not yet passed; a loading part IDLE; lawful programs in force and retained. -/
def State.SequencerLaw (s : State) : Prop :=
  s.sequencer.b ≤ 127 ∧ s.sequencer.b0 ≤ 127 ∧
    (s.sequencer.state = .idle ∨ s.sequencer.state = .starting → s.sequencer.b = 0) ∧
    s.sequencer.frame = s.sequencer.frameDue ∧
    (s.sequencer.InRun → s.sequencer.run.covers s.sequencer.step = true) ∧
    (s.sequencer.Stepping → s.sequencer.k < s.sequencer.current.dwell) ∧
    (s.isLoading = true → s.sequencer.state = .idle) ∧
    LawfulProgram s.sequencer.program ∧ LawfulProgram s.retainedContents.program

/-! ### Policy contexts (R153, R158) -/

/-- A context's figures lie in their ranges, and each ceiling is at or above its minimum. -/
def Context.Lawful (x : Context) : Prop :=
  (∀ c : Chain, x.chains[c].minimum ≤ x.chains[c].ceiling ∧ x.chains[c].ceiling ≤ 255 ∧
      x.chains[c].windowLimit ≤ 1099511627775) ∧
    x.poolLimit ≤ 16777215 ∧ 1 ≤ x.lifetime ∧ x.lifetime ≤ 32

/-- The context law: the current, every saved and the retained context are lawful, and the stack holds at
most four. -/
def State.ContextLaw (s : State) : Prop :=
  s.context.current.Lawful ∧ (∀ x ∈ s.context.stack, x.Lawful) ∧ s.context.stack.length ≤ 4 ∧
    s.retainedContents.context.Lawful

/-! ### Notices (R169) -/

/-- The notice law: at most one notice of each kind. -/
def State.NoticeLaw (s : State) : Prop :=
  (s.notices.map (·.kind)).Nodup

/-! ### Supply pool (R142, R143, R145) -/

/-- The supply law: E is the limit of the applied level, and a recovery hold runs exactly while the
target lies below the applied level. -/
def State.SupplyLaw (s : State) : Prop :=
  s.supply.limit = effectiveLimit s.supply.applied s.context.current.poolLimit s.supply.settings ∧
    s.supply.target.code ≤ s.supply.applied.code ∧
    (s.supply.hold.isSome = true ↔ s.supply.target.code < s.supply.applied.code)

/-! ### Matcher writes (R108, R111) -/

/-- The matcher law: a matcher has a pending entry exactly while it is WRITING, at most one is WRITING,
and the write timer runs exactly while one is. -/
def State.MatcherLaw (s : State) : Prop :=
  (∀ i : Fin 6, s.classifier.matchers[i].state = .writing ↔
      s.classifier.matchers[i].pendingEntry.isSome = true) ∧
    (∀ i j : Fin 6, s.classifier.matchers[i].state = .writing →
      s.classifier.matchers[j].state = .writing → i = j) ∧
    (s.classifier.timer.isSome = true ↔ s.classifier.writing = true)

/-! ### Counters (R14, R93, R120, R149) -/

/-- The counter law: the sixteen-bit counters, the run count among them, the event counts, the mismatch
counts and the invalid runs stand at or below their maximum. -/
def State.CounterLaw (s : State) : Prop :=
  (∀ c : Chain, s.engine[c].issued ≤ 65535 ∧ s.engine[c].reduced ≤ 65535 ∧
      s.engine[c].withheld ≤ 65535 ∧ s.grants.chains[c].lateCloses ≤ 65535) ∧
    (∀ i : Fin 9, s.events.records[i].count ≤ 255) ∧ s.sequencer.runCount ≤ 65535 ∧
    (∀ c : Chain, s.mismatch.chains[c].overRun ≤ 15 ∧ s.mismatch.chains[c].underRun ≤ 15) ∧
    ∀ i : Input, s.scanner.inputs[i].invalidRun ≤ 4

/-! ### What a change of the thermal states raises (R85, R86, R166) -/

/-- The chains that entered TRIPPED between two states, in order. -/
def State.tripEntries (s t : State) : List Chain :=
  allChains.filter fun c =>
    decide (s.thermal.chains[c].state ≠ .tripped ∧ t.thermal.chains[c].state = .tripped)

/-- The mask of the chains whose tripped condition differs between two states. -/
def State.tripChanges (s t : State) : BitVec 4 :=
  maskOf fun c => decide (¬(s.thermal.chains[c].state = .tripped ↔ t.thermal.chains[c].state = .tripped))

/-- The mask of the chains that are TRIPPED in a state. -/
def State.trippedIn (t : State) : BitVec 4 :=
  maskOf fun c => decide (t.thermal.chains[c].state = .tripped)

/-- The TRIP record once each of some chains has counted one event with its bit. -/
def recordOfTrips (entered : List Chain) (r : EventRecord) : EventRecord :=
  entered.foldl
    (fun r c => ⟨true, r.mask ||| eventMask (chainBit c), if r.count < 255 then r.count + 1 else r.count⟩) r

/-- The queue once the changes from `s` to `t` are told: one TRIP_CHANGE where any tripped condition
changed, its mask the chains that changed and its value the tripped mask after. -/
def State.toldTrips (s t : State) (queue : List Notice) : List Notice :=
  if s.tripChanges t = 0 then queue
  else arrive ⟨.tripChange, s.tripChanges t, t.trippedIn.zeroExtend 16⟩ queue

/-- The changes from `s` to `t` have raised their TRIP events and presented their triggers: the first passes
when it is enabled in the current context, the latch is clear and the part is READY, and then the latch
names TRIP and the sequencer has taken the start of its map entry; otherwise both stand. -/
def State.TripsRaised (s t : State) : Prop :=
  let passes := s.context.current.triggers.getLsbD 1 = true ∧ s.events.latch = none ∧ s.loader.load = .ready
  t.events.records[2] = recordOfTrips (s.tripEntries t) s.events.records[2] ∧
    (s.tripEntries t ≠ [] ∧ passes →
      t.events.latch = some .trip ∧ t.sequencer = s.sequencer.takeStart s.sequencer.triggers[1]) ∧
    (¬(s.tripEntries t ≠ [] ∧ passes) → t.events.latch = s.events.latch ∧ t.sequencer = s.sequencer)

/-! ### The image's sections (R178, R180) -/

/-- The figure at a place of the contents area. -/
def contentAt (bytes : List Byte) (i : Nat) : Nat :=
  (bytes.getD i 0).toNat

/-- The two-byte figure at a place, most significant byte first. -/
def wordAt (bytes : List Byte) (i : Nat) : Nat :=
  contentAt bytes i * 256 + contentAt bytes (i + 1)

/-- The temperature in two bytes at a place: two's complement, clamped to the range (R11). -/
def tempAt (bytes : List Byte) (i : Nat) : Int :=
  let v : Int := if wordAt bytes i < 32768 then wordAt bytes i else wordAt bytes i - 65536
  max (-640) (min 2400 v)

/-- Sections 1 and 2, from bytes 0 and 35: five calibrations and four thermal payloads, each with its index
byte, every knee below its trip; the fallback and the step period are the chain 3 payload's. -/
def Contents.ReadsSensors (k : Contents) (b : List Byte) : Prop :=
  (∀ i : Fin 5, contentAt b (7 * i.val) = i.val ∧
      k.sensors[i] = ⟨wordAt b (7 * i.val + 1), min (wordAt b (7 * i.val + 3)) 4095, tempAt b (7 * i.val + 5)⟩) ∧
    (∀ c : Fin 4, let o := 35 + 15 * c.val
      contentAt b o = c.val ∧ contentAt b (o + 14) ≤ 3 ∧ tempAt b (o + 6) < tempAt b (o + 8) ∧
      k.coeffs[c] = ⟨wordAt b (o + 1), contentAt b (o + 3), min (contentAt b (o + 4)) 16, tempAt b (o + 6),
        tempAt b (o + 8), min (wordAt b (o + 10)) 640, contentAt b (o + 5)⟩) ∧
    k.fallback = tempAt b 92 ∧
    (contentAt b 94, k.stepPeriod) ∈ [(0, StepPeriod.ms62), (1, .ms125), (2, .ms250), (3, .ms500)]

/-- Sections 3 to 5, from bytes 95, 119 and 124: eight classes, the service map and six matchers. -/
def Contents.ReadsClassifier (k : Contents) (b : List Byte) : Prop :=
  (∀ i : Fin 8, let o := 95 + 3 * i.val
      contentAt b o = i.val ∧ contentAt b (o + 2) ≤ 3 ∧
      k.classes[i] = ⟨contentAt b (o + 1), contentAt b (o + 2) % 2 == 1, contentAt b (o + 2) / 2 == 1⟩) ∧
    (∀ i : Fin 5, k.service[i].val = contentAt b (119 + i.val)) ∧
    ∀ i : Fin 6, let o := 124 + 19 * i.val
      contentAt b o = i.val ∧ contentAt b (o + 1) ≤ 1 ∧ k.matchers[i].enable = (contentAt b (o + 1) == 1) ∧
      (∀ n : Fin 8, k.matchers[i].mask[n] = b.getD (o + 2 + n.val) 0 ∧
        k.matchers[i].value[n] = b.getD (o + 10 + n.val) 0) ∧
      k.matchers[i].cls.val = contentAt b (o + 18)

/-- Sections 6 to 8, from bytes 238, 430 and 435: 24 steps, the sequencer settings and the trigger map. -/
def Contents.ReadsSequencer (k : Contents) (b : List Byte) : Prop :=
  (∀ i : Fin 24, let o := 238 + 8 * i.val
      contentAt b o = i.val ∧
      (contentAt b (o + 3), k.program[i].ramp) ∈ [(0, Ramp.hold), (1, Ramp.slope), (2, Ramp.accel)] ∧
      contentAt b (o + 6) ≤ 15 ∧ contentAt b (o + 7) ≤ 1 ∧
      k.program[i] = ⟨min (contentAt b (o + 1)) 127, max (contentAt b (o + 2)) 1, k.program[i].ramp,
        min (contentAt b (o + 4)) 15, min (contentAt b (o + 5)) 15, BitVec.ofNat 4 (contentAt b (o + 6)),
        contentAt b (o + 7) == 1⟩) ∧
    contentAt b 430 ≠ 0 ∧
    k.sequencer = ⟨contentAt b 430, wordAt b 431, contentAt b 433, min (contentAt b 434) 6⟩ ∧
    ∀ i : Fin 3, let o := 435 + 4 * i.val
      contentAt b o = i.val ∧ k.triggers[i].start.val = contentAt b (o + 1) ∧
      k.triggers[i].stop.val = contentAt b (o + 2) ∧ k.triggers[i].repeats = contentAt b (o + 3)

/-- Section 9, from byte 447: four chains, the pool limit, the lifetime and the trigger enable mask. -/
def Contents.ReadsContext (k : Contents) (b : List Byte) : Prop :=
  (∀ c : Fin 4, let o := 447 + 9 * c.val
      contentAt b o = c.val ∧ contentAt b (o + 1) ≤ 1 ∧ contentAt b (o + 3) ≤ contentAt b (o + 2) ∧
      k.context.chains[c] = ⟨contentAt b (o + 1) == 1, contentAt b (o + 2), contentAt b (o + 3),
        contentAt b (o + 4) * 2 ^ 32 + contentAt b (o + 5) * 2 ^ 24 + contentAt b (o + 6) * 2 ^ 16
          + contentAt b (o + 7) * 2 ^ 8 + contentAt b (o + 8)⟩) ∧
    k.context.poolLimit = contentAt b 483 * 65536 + contentAt b 484 * 256 + contentAt b 485 ∧
    k.context.lifetime = max 1 (min (contentAt b 486) 32) ∧ k.context.triggers.toNat = contentAt b 487

/-- Sections 10 to 13, from bytes 488, 490, 496 and 500: the window shape, the overload and the mismatch
settings, and the alert mask. -/
def Contents.ReadsSettings (k : Contents) (b : List Byte) : Prop :=
  k.shape.count = contentAt b 488 ∧ 8 ≤ contentAt b 488 ∧ contentAt b 488 ≤ 32 ∧
    (contentAt b 489, k.shape.period) ∈ [(0, BucketPeriod.ms31), (1, .ms62), (2, .ms125), (3, .ms250)] ∧
    k.overload = ⟨min (contentAt b 490) 3,
      contentAt b 491 * 65536 + contentAt b 492 * 256 + contentAt b 493, contentAt b 494,
      min (contentAt b 495) 7⟩ ∧
    k.mismatch = ⟨max 1 (min (contentAt b 496) 15), max 1 (min (contentAt b 497) 15),
      min (contentAt b 498) 15, contentAt b 499⟩ ∧
    k.alertMask.toNat = wordAt b 500

/-- Contents read, with their clamps, from a contents area every field of which is acceptable to its command
and whose index bytes name their places: the thirteen sections of R178 (R180, test 4). -/
def Contents.ReadsFrom (k : Contents) (b : List Byte) : Prop :=
  k.ReadsSensors b ∧ k.ReadsClassifier b ∧ k.ReadsSequencer b ∧ k.ReadsContext b ∧ k.ReadsSettings b

/-! ### Policy Port commands -/

/-- A Policy Port command's byte and payload length in the table of 12.4.3, and the payload it came with;
`none` for every other row, READ_STATUS among them, which is served in every load state. -/
def policyCommand : Instr → Option (Byte × Nat × List Byte)
  | .readChain p => some (0x10, 2, p)
  | .setWindowShape p => some (0x11, 2, p)
  | .setThermal p => some (0x12, 15, p)
  | .setSensorCal p => some (0x13, 7, p)
  | .writeClass p => some (0x14, 3, p)
  | .setServiceMap p => some (0x15, 5, p)
  | .writeMatcher p => some (0x16, 19, p)
  | .writeStep p => some (0x20, 8, p)
  | .setSequencer p => some (0x21, 5, p)
  | .setTrigger p => some (0x22, 4, p)
  | .startSchedule p => some (0x23, 3, p)
  | .abortSchedule p => some (0x24, 0, p)
  | .freeze p => some (0x25, 0, p)
  | .thaw p => some (0x26, 0, p)
  | .setOverload p => some (0x30, 6, p)
  | .setMismatch p => some (0x31, 4, p)
  | .setChain p => some (0x40, 9, p)
  | .setPoolLimit p => some (0x41, 3, p)
  | .setLifetime p => some (0x42, 1, p)
  | .setTriggerEnable p => some (0x43, 1, p)
  | .pushContext p => some (0x44, 0, p)
  | .popContext p => some (0x45, 0, p)
  | .peekContext p => some (0x46, 0, p)
  | .readEvents p => some (0x50, 0, p)
  | .clearEvents p => some (0x51, 2, p)
  | .setAlertMask p => some (0x52, 2, p)
  | .softReset p => some (0x61, 0, p)
  | .powerOn _ _ _ => none
  | .rstNAssert => none
  | .loadCompletion _ => none
  | .burstReq _ _ _ _ _ => none
  | .burstClose _ _ _ _ _ => none
  | .readNotice => none
  | .readLinkStatus => none
  | .linkReset => none
  | .badFrame _ _ => none
  | .shortFrame _ => none
  | .lapse _ _ => none
  | .bucketExpiry => none
  | .modelStep => none
  | .conversionTimerExpiry _ => none
  | .periodBoundary => none
  | .ovlPinChange _ _ => none
  | .debounceExpiry _ => none
  | .recoveryHoldExpiry => none
  | .writeCompletion => none
  | .readStatus _ => none
  | .badCommand _ _ => none
  | .commandByteArrival _ => none

end Sys2Proof.Machine
end

