-- ==== Sys2Proof/Certificates/Slice0/Obligations.lean ====
section
/-! DEFINITION. The statements for the provers. The rules R1 to R182 are those of spec/. A response part is
written with `State.answerLink` (header, then answer, R172) and a Policy Port answer with `State.reply`
(status and data in the buffer, the in-flight marker cleared, R175). -/

section

open Sys2Proof Sys2Proof.Machine

/-! ### The machine -/

/-- The command at the front of the queue is taken with the queue's rest (the block's queue is the model's
own); on an empty queue the part idles (the model's choice, assumption 2). -/
def Obligations.StepTakesFrontCommand : Prop :=
  (∀ (c : Instr) (rest : List Instr) (s : State),
    step { s with pending := c :: rest } = exec c { s with pending := rest }) ∧
  ∀ s : State, s.pending = [] → step s = .next s

/-- Every command completes in every state, and none touches the commands that wait behind it (the queue is
the model's own, assumption 9; that it stands across POWER_ON, RST_N_ASSERT and SOFT_RESET too is the model's
choice, assumption 14). -/
def Obligations.EveryCommandCompletes : Prop :=
  ∀ (c : Instr) (s : State), ∃ t : State, exec c s = .next t ∧ t.pending = s.pending

/-- R176, orders 2 and 3: a command of the table other than READ_STATUS is answered NOT_READY while LOADING,
then BAD_LENGTH for a payload of another length; either way no other state changes. R175: the end of a write
whose command byte is not in flight takes nothing and leaves the buffer (that another command's byte in flight
counts so is the model's reading, assumption 6). -/
def Obligations.UnservedPolicyCommandsChangeNothing : Prop :=
  ∀ (c : Instr) (b : Byte) (n : Nat) (payload : List Byte) (s : State),
    policyCommand c = some (b, n, payload) → s.rstHeld = false →
    (s.policy.inFlight = some b → s.loader.load = .loading → exec c s = .next (s.reply .notReady [])) ∧
    (s.policy.inFlight = some b → s.loader.load = .ready → payload.length ≠ n →
      exec c s = .next (s.reply .badLength [])) ∧
    (s.policy.inFlight ≠ some b → exec c s = .next s)

/-- R175, R176, R177: a command byte sets the marker; an unknown command is answered BAD_COMMAND before every
other check; READ_STATUS is answered OK with the data of 12.4.5 in every load state, BAD_LENGTH when a payload
came with it; the reply clears the marker, and with no byte in flight the end of a write takes nothing. R175
and 12.4.3: a write to the port's address comes to the arrival of its command byte and then the command of that
byte, a write without one to nothing; a read returns status, data length and data, then bytes 0x00, and only at
the port's address. R179: a part held in reset answers no read. (That the marker holds its command byte is the
model's choice, assumption 6, and that a write puts both its events at the front of the queue assumption 9.) -/
def Obligations.PolicyPortOwnCommands : Prop :=
  (∀ s : State, s.rstHeld = false →
    (∀ b : Byte, exec (.commandByteArrival b) s =
      .next { s with policy := { s.policy with inFlight := some b } }) ∧
    (∀ (b : Byte) (p : List Byte), s.policy.inFlight = some b → exec (.badCommand b p) s =
      .next { s with policy := ⟨none, ⟨.badCommand, []⟩, s.policy.address⟩ }) ∧
    (s.policy.inFlight = some 0x60 →
      exec (.readStatus []) s = .next { s with policy := ⟨none, ⟨.ok, s.statusBytes⟩, s.policy.address⟩ } ∧
      ∀ p : List Byte, p ≠ [] → exec (.readStatus p) s =
        .next { s with policy := ⟨none, ⟨.badLength, []⟩, s.policy.address⟩ }) ∧
    (∀ (b : Byte) (p : List Byte), s.policy.inFlight = none →
      exec (.badCommand b p) s = .next s ∧ exec (.readStatus p) s = .next s)) ∧
  (∀ (c : Instr) (b : Byte) (n : Nat) (p : List Byte), policyCommand c = some (b, n, p) →
    policyCommandOf b p = c ∧ b ∈ policyCommandBytes) ∧
  (∀ p : List Byte, policyCommandOf 0x60 p = .readStatus p ∧
    ∀ b : Byte, b ∉ policyCommandBytes → policyCommandOf b p = .badCommand b p) ∧
  ∀ s : State,
    s.withPolicyWrite s.policy.address [] = s ∧
    (∀ (b : Byte) (p : List Byte), s.withPolicyWrite s.policy.address (b :: p) =
      { s with pending := .commandByteArrival b :: policyCommandOf b p :: s.pending }) ∧
    (∀ (a : BitVec 7) (bytes : List Byte), a ≠ s.policy.address → s.withPolicyWrite a bytes = s) ∧
    (∀ (a : BitVec 7) (n : Nat), s.rstHeld = true ∨ a ≠ s.policy.address → s.policyRead a n = none) ∧
    (∀ n : Nat, s.rstHeld = false → ∃ bytes : List Byte,
      s.policyRead s.policy.address n = some bytes ∧ bytes.length = n ∧
      (∀ x, bytes[0]? = some x → x = toByte s.policy.response.status.code) ∧
      (∀ x, bytes[1]? = some x → x = toByte s.policy.response.data.length) ∧
      ∀ (i : Nat) (x : Byte), bytes[i + 2]? = some x → x = s.policy.response.data.getD i 0x00)

/-- The layouts of 12.4.2, 12.4.4 and 12.4.5, byte by byte: the GRANT record, CLOSE_RESULT, a notice, the link
status, the chain report, PEEK_CONTEXT, READ_EVENTS and READ_STATUS; and the encodings of 12.3 and R176. -/
def Obligations.AnswersHaveTheirLayout : Prop :=
  let byte := fun (v place : Nat) => toByte (v / 256 ^ place)
  let flag := fun (b : Bool) (weight : Nat) => if b then weight else 0
  let signed := fun x : Int => (BitVec.ofInt 16 x).toNat
  (∀ r : GrantRecord, r.bytes = [toByte r.outcome.code, r.tag, r.chain, toByte r.code, toByte r.reduction,
    toByte r.factor.code, toByte r.cls, toByte (flag r.framed 1), toByte (withheldCode r.reason),
    toByte (refusalCode r.refusal)]) ∧
  (∀ (r : CloseResult) (c t : Byte), closeBytes r c t = [toByte r.code, c, t]) ∧
  (∀ n : Notice, n.bytes =
    [0x00, toByte n.kind.code, toByte n.mask.toNat, byte n.value.toNat 1, byte n.value.toNat 0]) ∧
  (∀ (s : State) (c : Chain),
    let x := s.thermal.chains[c]
    let w := s.windows.chains[c]
    let g := s.grants.chains[c]
    let e := s.engine[c]
    let left := s.context.current.chains[c].windowLimit - (w.sum + g.reserved)
    let flags := flag x.pinned 1 + flag (w.ring.any fun b => b.pinned) 2
      + flag (decide (s.mismatch.chains[c].state = .mismatched)) 4
    s.chainReport c =
      [byte (signed x.estimate) 1, byte (signed x.estimate) 0, toByte flags, toByte x.state.code,
        byte w.sum 4, byte w.sum 3, byte w.sum 2, byte w.sum 1, byte w.sum 0,
        byte g.reserved 2, byte g.reserved 1, byte g.reserved 0,
        byte left 4, byte left 3, byte left 2, byte left 1, byte left 0,
        toByte g.opened.length, toByte w.residue, byte e.issued 1, byte e.issued 0,
        byte e.reduced 1, byte e.reduced 0, byte e.withheld 1, byte e.withheld 0,
        byte g.lateCloses 1, byte g.lateCloses 0, toByte e.lastFactor.code]) ∧
  (∀ x : Context, x.bytes.length = 37 ∧
    (∀ c : Chain, (x.bytes.drop (8 * c.val)).take 8 =
      [toByte (flag x.chains[c].enabled 1), toByte x.chains[c].ceiling, toByte x.chains[c].minimum,
        byte x.chains[c].windowLimit 4, byte x.chains[c].windowLimit 3, byte x.chains[c].windowLimit 2,
        byte x.chains[c].windowLimit 1, byte x.chains[c].windowLimit 0]) ∧
    x.bytes.drop 32 = [byte x.poolLimit 2, byte x.poolLimit 1, byte x.poolLimit 0, toByte x.lifetime,
      toByte x.triggers.toNat]) ∧
  (∀ e : EventLatch, e.bytes.length = 21 ∧
    (∀ i : Fin 9, (e.bytes.drop (2 * i.val)).take 2 =
      [toByte (flag e.records[i].raised 128 + e.records[i].mask.toNat), toByte e.records[i].count]) ∧
    e.bytes.drop 18 = [byte e.alertMask.toNat 1, byte e.alertMask.toNat 0,
      match e.latch with
      | none => 0x00
      | some .overloadCrit => 0x01
      | some .trip => 0x02
      | some .mismatch => 0x03]) ∧
  (∀ s : State,
    let q := s.sequencer
    let y := s.supply
    let count := fun (c : Chain) (weight : Nat) => weight * s.grants.chains[c].opened.length
    s.linkStatus = [0x00, toByte (count 0 1 + count 1 4 + count 2 16 + count 3 64), toByte s.notices.length,
      toByte q.state.code,
      match q.state with
      | .running => toByte q.b
      | .frozen => toByte q.b
      | .holding => toByte q.b
      | .idle => 0x00
      | .starting => 0x00] ∧
    s.statusBytes.length = 67 ∧
    s.statusBytes.take 5 = [toByte s.loader.load.code, toByte s.loader.image.code,
      byte (signed s.thermal.board.temp) 1, byte (signed s.thermal.board.temp) 0,
      toByte (flag s.thermal.board.pinned 1 + flag s.thermal.board.onFallback 2)] ∧
    (∀ i : Input, let r := s.scanner.inputs[i]
      (s.statusBytes.drop (5 + 3 * i.val)).take 3 =
        [byte (signed r.lastValue) 1, byte (signed r.lastValue) 0,
          toByte (r.lastStatus.code + 4 * r.invalidRun + flag r.lastPinned 32 + flag r.lost 128)]) ∧
    (∀ i : Fin 6, s.statusBytes[20 + i.val]? = some (toByte s.classifier.matchers[i].state.code)) ∧
    (s.statusBytes.drop 26).take 9 =
      [toByte q.state.code,
        match q.remembered with
        | none => 0x00
        | some .running => 0x02
        | some .holding => 0x04,
        toByte q.step.val, toByte q.b, toByte q.k, byte q.runCount 1, byte q.runCount 0,
        toByte q.repeatsLeft, toByte q.holdCount] ∧
    (q.state = .idle → (s.statusBytes.drop 35).take 3 = [0, 0, 0]) ∧
    (q.state ≠ .idle → (s.statusBytes.drop 35).take 3 =
      [toByte q.run.start.val, toByte q.run.stop.val, toByte q.run.repeats]) ∧
    (q.pendingStart = none → (s.statusBytes.drop 38).take 4 = [0, 0, 0, 0]) ∧
    (∀ r : RunParams, q.pendingStart = some r →
      (s.statusBytes.drop 38).take 4 = [1, toByte r.start.val, toByte r.stop.val, toByte r.repeats]) ∧
    (s.statusBytes.drop 42).take 12 =
      [toByte (flag q.frame 1), toByte (flag y.warnLine.taken 1 + flag y.critLine.taken 2),
        if y.critLine.taken then 2 else if y.warnLine.taken then 1 else 0,
        toByte y.applied.code, toByte (flag y.hold.isSome 1), byte y.limit 2, byte y.limit 1, byte y.limit 0,
        byte s.grants.poolSum 3, byte s.grants.poolSum 2, byte s.grants.poolSum 1, byte s.grants.poolSum 0] ∧
    (∀ c : Chain, let m := s.mismatch.chains[c]
      (s.statusBytes.drop (54 + 3 * c.val)).take 3 =
        [toByte m.state.code, toByte m.overRun, toByte m.underRun]) ∧
    s.statusBytes[66]? = some (toByte s.context.stack.length)) ∧
  [GrantOutcome.granted, .withheld, .refused].map (·.code) = [0, 1, 2] ∧
  [Factor.unlimited, .policy, .pool, .mismatch, .startup, .thermal, .schedule, .window, .floor].map (·.code) =
    [0, 1, 2, 3, 4, 5, 6, 7, 8] ∧
  [none, some WithheldReason.disabled, some .trip, some .belowMin].map withheldCode = [0, 1, 2, 3] ∧
  [none, some RefusalCode.badChain, some .badDuration, some .openFull, some .dupTag, some .badFrame].map
    refusalCode = [0, 1, 2, 3, 4, 5] ∧
  [CloseResult.closed, .closedWithLapse, .unknownTag, .badChain, .badFrame].map (·.code) = [0, 1, 2, 3, 4] ∧
  [NoticeKind.scheduleStart, .scheduleEnding, .scheduleEnd, .frameEnter, .frameLeave, .tripChange, .poolCut,
    .mismatchChange].map (·.code) = [1, 2, 3, 4, 5, 6, 7, 8] ∧
  [ThermalState.normal, .warm, .tripped, .unknown].map (·.code) = [0, 1, 2, 3] ∧
  [SequencerState.idle, .starting, .running, .frozen, .holding].map (·.code) = [0, 1, 2, 3, 4] ∧
  [SupplyLevel.nominal, .warn, .crit].map (·.code) = [0, 1, 2] ∧
  [MatcherState.disabled, .enabled, .writing].map (·.code) = [0, 1, 2] ∧
  [SensorStatus.unread, .valid, .invalid].map (·.code) = [0, 1, 2] ∧
  [MismatchState.clear, .mismatched].map (·.code) = [0, 1] ∧
  [LoadState.loading, .ready].map (·.code) = [0, 1] ∧
  [ImageStatus.imageUsed, .defaultsUsed, .inProgress].map (·.code) = [0, 1, 2] ∧
  [Status.ok, .busy, .range, .wrongState, .stackFull, .stackEmpty, .notReady, .badCommand, .badLength].map
    (·.code) = [0, 1, 2, 3, 4, 5, 6, 7, 8]

/-- R179: while RST_N is held every event but its release, its own assertion and a pin's movement does nothing;
its assertion puts every block in its power-on state, with the bucket timer stopped and no line taken (that no
timer runs and no line is taken while it is held is the model's reading, assumption 5; that the waiting commands
and the free-value counter stand is its choice, assumption 14, as are the empty response part, assumption 7, and
the run parameters 0, 0, 0, assumption 15, taken over from State.reset). -/
def Obligations.HeldPartStaysInPowerOnState : Prop :=
  (∀ (c : Instr) (s : State), s.rstHeld = true →
    (∀ a w k : Bool, c ≠ .powerOn a w k) → c ≠ .rstNAssert →
    (∀ (line : OvlLine) (b : Bool), c ≠ .ovlPinChange line b) → exec c s = .next s) ∧
  (∀ (line : OvlLine) (b : Bool) (s : State), s.rstHeld = true →
    exec (.ovlPinChange line b) s =
      .next { s with supply := s.supply.setLine line { s.supply.line line with pin := b } }) ∧
  ∀ s : State, exec .rstNAssert s =
    .next { State.reset with
      pending := s.pending
      rstHeld := true
      windows := { State.reset.windows with timer := none }
      supply := { State.reset.supply with
        warnLine := ⟨s.supply.warnLine.pin, false, none⟩
        critLine := ⟨s.supply.critLine.pin, false, none⟩ }
      policy := { State.reset.policy with address := s.policy.address }
      freeCount := s.freeCount }

/-- R148, R175, R179: power-on gives every block its power-on value, takes the address and samples both
pins; a level found there is a rise, with its event, and no trigger starts anything (that the waiting
commands and the free-value counter stand is the model's choice, assumption 14, as are the empty response part,
assumption 7, and the run parameters 0, 0, 0, assumption 15, taken over from State.reset). -/
def Obligations.PowerOnSamplesTheLines : Prop :=
  ∀ (addrSel warn crit : Bool) (s : State),
    exec (.powerOn addrSel warn crit) s =
      .next { State.reset with
        pending := s.pending
        policy := ⟨none, ⟨.ok, []⟩, if addrSel then 0x37 else 0x36⟩
        supply := { State.reset.supply with
          warnLine := ⟨warn, warn, none⟩
          critLine := ⟨crit, crit, none⟩
          applied := if crit then .crit else if warn then .warn else .nominal
          limit := if crit then 400000 else if warn then 600000 else 1200000 }
        events := { State.reset.events with
          records :=
            if crit then State.reset.events.records.set 1 ⟨true, 0, 1⟩
            else if warn then State.reset.events.records.set 0 ⟨true, 0, 1⟩
            else State.reset.events.records }
        freeCount := s.freeCount }

/-- The values the spec gives right after power-on (R9, R55, R70, R74, R89, R101, R114, R117 to R119, R138,
R148, R149, R152, R163, R165, R168, R171, R172, R175, R179) (the deasserted pins and the empty response of
the link are the model's choices, assumptions 1 and 7, and are not in this statement). -/
def Obligations.ResetHoldsPowerOnValues : Prop :=
  let s := State.reset
  s.rstHeld = false ∧ s.link.epoch = 0 ∧ s.notices = [] ∧ s.grants.poolSum = 0 ∧
  (∀ c : Chain, s.engine[c] = ⟨0, 0, 0, .unlimited⟩ ∧ s.grants.chains[c] = ⟨[], 0, 0⟩ ∧
    s.windows.chains[c] = ⟨List.replicate 32 ⟨0, false⟩, 0, 0, 0⟩ ∧
    s.thermal.chains[c] = ⟨400, false, .normal, 0, ⟨10, 4, 4, 720, 1360, 80, 64⟩⟩ ∧
    s.mismatch.chains[c] = ⟨.clear, 0, 0⟩ ∧
    s.context.current.chains[c] = ⟨true, 236, 80, 415488000⟩) ∧
  s.windows.shape = ⟨32, .ms125⟩ ∧ s.windows.current = 0 ∧ s.windows.timer = some 125000 ∧
  s.thermal.board = ⟨400, false, false, true⟩ ∧ s.thermal.fallback = 720 ∧ s.thermal.period = .ms250 ∧
  s.thermal.timer = none ∧
  (∀ i : Input, s.scanner.inputs[i] = ⟨⟨3040, 0, -640⟩, 400, false, .unread, 0, false⟩) ∧
  s.scanner.rotation = 0 ∧ s.scanner.inFlight = none ∧ s.scanner.timer = none ∧
  (∀ k : Fin 8, s.classifier.classes[k] = ⟨0, false, false⟩) ∧
  (∀ k : Fin 5, s.classifier.service[k] = 7) ∧
  (∀ i : Fin 6, s.classifier.matchers[i] =
    ⟨.disabled, Vector.replicate 8 0, Vector.replicate 8 0, 7, none⟩) ∧
  s.classifier.timer = none ∧
  (∀ i : Fin 24, s.sequencer.program[i] = ⟨0, 1, .hold, 0, 0, 0, false⟩) ∧
  (∀ i : Fin 3, s.sequencer.triggers[i] = ⟨0, 0, 0⟩) ∧
  s.sequencer.settings = ⟨50, 0, 0, 0⟩ ∧ s.sequencer.state = .idle ∧ s.sequencer.remembered = none ∧
  s.sequencer.step = 0 ∧ s.sequencer.b = 0 ∧ s.sequencer.b0 = 0 ∧ s.sequencer.k = 0 ∧
  s.sequencer.runCount = 0 ∧ s.sequencer.repeatsLeft = 0 ∧ s.sequencer.increment = 0 ∧
  s.sequencer.holdCount = 0 ∧ s.sequencer.pendingStart = none ∧ s.sequencer.frame = false ∧
  s.sequencer.timer = none ∧
  s.supply.settings = ⟨1, 400000, 200, 4⟩ ∧ s.supply.hold = none ∧
  s.mismatch.settings = ⟨10, 3, 2, 212⟩ ∧
  s.context.current.poolLimit = 1200000 ∧ s.context.current.lifetime = 6 ∧
  s.context.current.triggers = 0 ∧ s.context.stack = [] ∧
  (∀ i : Fin 9, s.events.records[i] = ⟨false, 0, 0⟩) ∧ s.events.alertMask = 0x19F ∧
  s.events.latch = none ∧ s.policy.inFlight = none ∧ s.policy.response = ⟨.ok, []⟩ ∧
  s.loader = ⟨.loading, .inProgress, none⟩

/-! ### The image and soft reset -/

/-- R178, R180: tests 1 to 3 on the 254 words as read (a word that does not answer reads 0xFFFF); the 502 bytes
of the contents area, two to a word; and test 4, that contents are read from it exactly when every section, at its
place, is acceptable to its command (`Contents.ReadsFrom`). R181 with R71, R85, R86, R89, R101, R114, R138, R145,
R146, R148, R152, R163, R166, R168: the load completes with the image's contents or the defaults, each block takes
its section, the re-evaluation raises its TRIP events, notice and trigger on the loaded context, POOL_CUT follows
the new E, and IMAGE_BAD is recorded on the defaults. The lists, accounts, counters, the other records, the run
state, the stack, the link and the port stand (that E is recomputed once, on the loaded context, is the model's
reading, assumption 11; the order of the two notices is a free value, assumption 3). -/
def Obligations.LoadCompletionAppliesContents : Prop :=
  (∀ flash : List Word16,
    let word := fun i : Nat => flash.getD i 0xFFFF
    let sum := ((List.range 254).map fun i => (word i).toNat).sum
    (word 0 ≠ 0xA410 → judgeImage flash = none) ∧
    (word 1 ≠ 254 → judgeImage flash = none) ∧
    (sum % 65536 ≠ 0 → judgeImage flash = none) ∧
    (word 0 = 0xA410 → word 1 = 254 → sum % 65536 = 0 →
      judgeImage flash = parseContents (contentBytes flash)) ∧
    (contentBytes flash).length = 502 ∧
    ∀ i : Fin 251, ((contentBytes flash).drop (2 * i.val)).take 2 =
      [toByte ((word (i.val + 2)).toNat / 256), toByte ((word (i.val + 2)).toNat % 256)]) ∧
  (∀ (bytes : List Byte) (k : Contents), parseContents bytes = some k ↔ k.ReadsFrom bytes) ∧
  ∀ (flash : List Word16) (s : State), s.rstHeld = false → s.loader.load = .loading →
    let k := (judgeImage flash).getD Contents.builtIn
    let e := match s.supply.applied with
      | .nominal => k.context.poolLimit
      | .warn => k.context.poolLimit / 2 ^ k.overload.warnShift
      | .crit => min k.overload.critLimit k.context.poolLimit
    let cut := e ≠ s.supply.limit ∧ e < s.grants.poolSum
    let tellCut := fun queue : List Notice =>
      if cut then arrive ⟨.poolCut, maskOf fun c => !s.grants.chains[c].opened.isEmpty, BitVec.ofNat 16 (e / 1024)⟩ queue
      else queue
    let applied : State := { s with
      loader := ⟨.ready, if (judgeImage flash).isSome then .imageUsed else .defaultsUsed, some k⟩
      context := ⟨k.context, s.context.stack⟩
      sequencer := { s.sequencer with
        program := k.program
        settings := k.sequencer
        triggers := k.triggers
        timer := some (k.sequencer.period * 10000) } }
    ∃ t : State, exec (.loadCompletion flash) s = .next t ∧
      t.loader = ⟨.ready, if (judgeImage flash).isSome then .imageUsed else .defaultsUsed, some k⟩ ∧
      t.scanner.inFlight = some ⟨0, k.sensors[0]⟩ ∧ t.scanner.timer = some 2000 ∧
      t.scanner.rotation = 0 ∧
      (∀ i : Input, t.scanner.inputs[i] = { s.scanner.inputs[i] with cal := k.sensors[i] }) ∧
      (∀ c : Chain, t.thermal.chains[c] =
        { s.thermal.chains[c] with
          coeffs := k.coeffs[c]
          state := reevaluated k.coeffs[c] s.thermal.chains[c].estimate s.thermal.chains[c].state }) ∧
      t.thermal.board = s.thermal.board ∧ t.thermal.fallback = k.fallback ∧
      t.thermal.period = k.stepPeriod ∧ t.thermal.timer = some k.stepPeriod.micros ∧
      t.classifier.classes = k.classes ∧ t.classifier.service = k.service ∧ t.classifier.timer = none ∧
      (∀ i : Fin 6, t.classifier.matchers[i] =
        ⟨if k.matchers[i].enable then .enabled else .disabled, k.matchers[i].mask, k.matchers[i].value,
          k.matchers[i].cls, none⟩) ∧
      t.sequencer.program = k.program ∧ t.sequencer.settings = k.sequencer ∧
      t.sequencer.triggers = k.triggers ∧ t.sequencer.timer = some (k.sequencer.period * 10000) ∧
      t.context = ⟨k.context, s.context.stack⟩ ∧
      t.windows = (if k.shape = s.windows.shape then s.windows else s.windows.reshape k.shape) ∧
      t.supply = { s.supply with settings := k.overload, limit := e } ∧
      t.mismatch = ⟨k.mismatch, s.mismatch.chains⟩ ∧ t.events.alertMask = k.alertMask ∧
      applied.TripsRaised t ∧
      (∀ i : Fin 9, i ≠ 2 → i ≠ 8 → t.events.records[i] = s.events.records[i]) ∧
      ((judgeImage flash).isSome = true → t.events.records[8] = s.events.records[8]) ∧
      ((judgeImage flash).isSome = false →
        t.events.records[8] = s.events.records[8].take 0) ∧
      (¬(cut ∧ s.tripChanges t ≠ 0) →
        t.notices = s.toldTrips t (tellCut s.notices) ∧ t.freeCount = s.freeCount) ∧
      (cut ∧ s.tripChanges t ≠ 0 →
        (t.notices = s.toldTrips t (tellCut s.notices) ∨ t.notices = tellCut (s.toldTrips t s.notices)) ∧
        t.freeCount = s.freeCount + 1) ∧
      t = { s with
        loader := t.loader, scanner := t.scanner, thermal := t.thermal, classifier := t.classifier,
        sequencer := t.sequencer, context := t.context, windows := t.windows, supply := t.supply,
        mismatch := t.mismatch, events := t.events, notices := t.notices, freeCount := t.freeCount }

/-- R182 with R56, R72, R90, R115, R139, R148, R152, R163, R166, R168, R171: SOFT_RESET returns every block to the
retained contents, without charge, and is answered OK. Every record and the latch are cleared, and IMAGE_BAD, a rise
found on re-sampling and the trips found on re-evaluation are raised after the clearing; the OVERLOAD_CRIT trigger is
taken before a TRIP trigger; the queue holds at most the TRIP_CHANGE of the chains that changed or are tripped (that
the waiting commands and the free-value counter stand is the model's choice, assumption 14, and that the run
parameters stand assumption 15). -/
def Obligations.SoftResetRestoresRetainedContents : Prop :=
  ∀ (s : State) (k : Contents), s.Serving 0x61 → s.loader.retained = some k →
    ∃ t : State, exec (.softReset []) s = .next t ∧
      t.link.epoch = s.link.epoch + 1 ∧ t.policy = ⟨none, ⟨.ok, []⟩, s.policy.address⟩ ∧
      (∀ c : Chain, t.grants.chains[c] = ⟨[], 0, 0⟩ ∧ t.engine[c] = ⟨0, 0, 0, .unlimited⟩ ∧
        t.windows.chains[c] = ⟨List.replicate k.shape.count ⟨0, false⟩, 0, 0, 0⟩ ∧
        t.mismatch.chains[c] = ⟨.clear, 0, 0⟩ ∧
        t.thermal.chains[c] =
          { s.thermal.chains[c] with
            coeffs := k.coeffs[c]
            state := reevaluated k.coeffs[c] s.thermal.chains[c].estimate s.thermal.chains[c].state }) ∧
      t.grants.poolSum = 0 ∧
      t.windows.shape = k.shape ∧ t.windows.current = 0 ∧ t.windows.timer = some k.shape.period.micros ∧
      t.thermal.board = (if s.thermal.board.onFallback then
        { s.thermal.board with temp := k.fallback, pinned := false } else s.thermal.board) ∧
      t.thermal.fallback = k.fallback ∧ t.thermal.period = k.stepPeriod ∧
      t.thermal.timer = (if k.stepPeriod = s.thermal.period then s.thermal.timer
        else some k.stepPeriod.micros) ∧
      t.pending = s.pending ∧ t.rstHeld = false ∧ t.scanner = s.scanner ∧ t.loader = s.loader ∧
      t.freeCount = s.freeCount ∧
      t.classifier.classes = k.classes ∧ t.classifier.service = k.service ∧ t.classifier.timer = none ∧
      (∀ i : Fin 6, t.classifier.matchers[i] =
        ⟨if k.matchers[i].enable then .enabled else .disabled, k.matchers[i].mask, k.matchers[i].value,
          k.matchers[i].cls, none⟩) ∧
      t.sequencer.program = k.program ∧ t.sequencer.settings = k.sequencer ∧
      t.sequencer.triggers = k.triggers ∧ t.sequencer.timer = some (k.sequencer.period * 10000) ∧
      (let rise := s.supply.applied.code < t.supply.applied.code
       let record := fun b : Bool => if b then EventRecord.mk true 0 1 else EventRecord.mk false 0 0
       let crit := rise ∧ t.supply.applied = .crit ∧ k.context.triggers.getLsbD 0 = true
       let trip := ¬crit ∧ s.tripEntries t ≠ [] ∧ k.context.triggers.getLsbD 1 = true
       t.events.records[0] = record (decide (rise ∧ t.supply.applied = .warn)) ∧
       t.events.records[1] = record (decide (rise ∧ t.supply.applied = .crit)) ∧
       t.events.records[2] = recordOfTrips (s.tripEntries t) ⟨false, 0, 0⟩ ∧
       (∀ i : Fin 9, 3 ≤ i.val → i.val ≤ 7 → t.events.records[i] = ⟨false, 0, 0⟩) ∧
       (crit → t.events.latch = some .overloadCrit ∧ t.sequencer.state = .starting ∧
         t.sequencer.run = k.triggers[0]) ∧
       (trip → t.events.latch = some .trip ∧ t.sequencer.state = .starting ∧ t.sequencer.run = k.triggers[1]) ∧
       (¬crit → ¬trip → t.events.latch = none ∧ t.sequencer.state = .idle ∧ t.sequencer.run = s.sequencer.run) ∧
       t.notices =
         if s.tripChanges t = 0 ∧ t.trippedIn = 0 then []
         else [⟨.tripChange, s.tripChanges t ||| t.trippedIn, t.trippedIn.zeroExtend 16⟩]) ∧
      t.sequencer.remembered = none ∧ t.sequencer.step = 0 ∧ t.sequencer.b = 0 ∧ t.sequencer.b0 = 0 ∧
      t.sequencer.k = 0 ∧ t.sequencer.runCount = 0 ∧ t.sequencer.repeatsLeft = 0 ∧
      t.sequencer.increment = 0 ∧ t.sequencer.holdCount = 0 ∧ t.sequencer.pendingStart = none ∧
      t.sequencer.frame = false ∧
      t.mismatch.settings = k.mismatch ∧ t.context = ⟨k.context, []⟩ ∧ t.events.alertMask = k.alertMask ∧
      t.supply.settings = k.overload ∧ t.supply.hold = none ∧
      t.supply.warnLine = ⟨s.supply.warnLine.pin, s.supply.warnLine.pin, none⟩ ∧
      t.supply.critLine = ⟨s.supply.critLine.pin, s.supply.critLine.pin, none⟩ ∧
      t.supply.applied = (if s.supply.critLine.pin then .crit else if s.supply.warnLine.pin then .warn
        else .nominal) ∧
      t.supply.limit = effectiveLimit t.supply.applied k.context.poolLimit k.overload ∧
      (t.events.records[8] = if s.loader.image = .defaultsUsed then ⟨true, 0, 1⟩ else ⟨false, 0, 0⟩) ∧
      (t.thermal.trippedMask = 0 → (∀ c : Chain, s.thermal.chains[c].state ≠ .tripped) → t.notices = [])

/-- The expiry of a timer that does not run, a load completion without a load, and a pin level already shown
change nothing: no such event exists (0.3.2, R42, R179; the model's reading, assumption 4). -/
def Obligations.StoppedTimersDoNothing : Prop :=
  ∀ s : State, s.rstHeld = false →
    (s.windows.timer = none → exec .bucketExpiry s = .next s) ∧
    (s.thermal.timer = none → exec .modelStep s = .next s) ∧
    (∀ raw : BitVec 12, s.scanner.timer = none → exec (.conversionTimerExpiry raw) s = .next s) ∧
    (s.sequencer.timer = none → exec .periodBoundary s = .next s) ∧
    (s.classifier.timer = none → exec .writeCompletion s = .next s) ∧
    (∀ line : OvlLine, (s.supply.line line).debounce = none → exec (.debounceExpiry line) s = .next s) ∧
    (s.supply.hold = none → exec .recoveryHoldExpiry s = .next s) ∧
    (∀ (c : Chain) (tag : Byte), (∀ g ∈ s.grants.chains[c].opened, g.tag ≠ tag) →
      exec (.lapse c tag) s = .next s) ∧
    (∀ flash : List Word16, s.loader.load = .ready → exec (.loadCompletion flash) s = .next s) ∧
    (∀ line : OvlLine, exec (.ovlPinChange line (s.supply.line line).pin) s = .next s)

/-! ### Arithmetic -/

/-- R5, every row of its table. -/
def Obligations.LinearPowerProperties : Prop :=
  linearPower 0 = 1 ∧ linearPower 255 = 1217 * 2048 ∧ linearPower 255 = 2492416 ∧
  (∀ p : Fin 255, linearPower p.val ≤ linearPower (p.val + 1)) ∧
  (∀ p : Fin 255, 49 ≤ p.val → linearPower p.val < linearPower (p.val + 1)) ∧
  (∀ p : Fin 12, linearPower p.val = 1) ∧ linearPower 48 = 16 ∧ linearPower 49 = 16 ∧
  (∀ p : Fin 244, linearPower (p.val + 12) = 2 * linearPower p.val ∨
    linearPower (p.val + 12) = 2 * linearPower p.val + 1) ∧
  (∀ p : Fin 244, 120 ≤ p.val → linearPower (p.val + 12) = 2 * linearPower p.val ∧
    linearPower p.val = mTable.getD (p.val % 12) 0 * 2 ^ (p.val / 12 - 10)) ∧
  (∀ p : Fin 256, 192 ≤ p.val → linearPower p.val % 64 = 0)

/-- R6: the inverse lookup, its three cases, the largest code among equals, and the examples. -/
def Obligations.InverseLookupIsLargestCode : Prop :=
  (∀ x : Int, x < 1 → linv x = none) ∧
  (∀ x : Int, 2492416 ≤ x → linv x = some 255) ∧
  (∀ x : Int, 1 ≤ x → x < 2492416 →
    ∃ p : Nat, linv x = some p ∧ p < 255 ∧ (linearPower p : Int) ≤ x ∧ x < linearPower (p + 1)) ∧
  (∀ (x : Int) (p q : Nat), linv x = some p → q ≤ 255 → (linearPower q : Int) ≤ x → q ≤ p) ∧
  linv 1 = some 11 ∧ linv 16 = some 49

/-- R8: over any sequence of charges on one chain no product is lost; a charge of duration 0 changes nothing,
and one of code 192 to 255 leaves the residue. R61, R62, R63: the charged amount goes whole to a bucket that can
hold it below the maximum, else the bucket stands at the maximum, pinned; the window sum grows by what the bucket
took; the heat-in accumulator takes the whole amount, saturating; the other buckets stand. -/
def Obligations.ChargesLoseNoProduct : Prop :=
  (∀ (charges : List (Nat × Nat)) (w : WindowChain) (current : Nat),
    let run := charges.foldl
      (fun (x : WindowChain × Nat) (q : Nat × Nat) =>
        (x.1.charge current q.1 q.2, x.2 + (linearPower q.1 * q.2 + x.1.residue) / 64)) (w, 0)
    64 * run.2 + run.1.residue = w.residue + (charges.map fun q => linearPower q.1 * q.2).sum) ∧
  (∀ (w : WindowChain) (current p : Nat), w.residue < 64 → w.charge current p 0 = w) ∧
  (∀ (w : WindowChain) (current p d : Nat), w.residue < 64 → 192 ≤ p → p ≤ 255 →
    (w.charge current p d).residue = w.residue) ∧
  (∀ (w : WindowChain) (i p d : Nat) (b : Bucket), w.ring[i]? = some b → b.energy ≤ 4294967295 →
    w.heatIn ≤ 4294967295 →
    let a := (linearPower p * d + w.residue) / 64
    let v := w.charge i p d
    v.residue = (linearPower p * d + w.residue) % 64 ∧
    v.heatIn = min (w.heatIn + a) 4294967295 ∧
    (a = 0 → v.ring = w.ring ∧ v.sum = w.sum) ∧
    (0 < a → b.energy + a < 4294967295 → v.ring = w.ring.set i ⟨b.energy + a, b.pinned⟩ ∧ v.sum = w.sum + a) ∧
    (0 < a → 4294967295 ≤ b.energy + a →
      v.ring = w.ring.set i ⟨4294967295, true⟩ ∧ v.sum = w.sum + (4294967295 - b.energy)))

/-! ### The grant decision -/

/-- R17, R18, R32: the four refusals in their order, each answered REFUSED with no other state changed, and the
request on a disabled chain, WITHHELD DISABLED with factor POLICY. -/
def Obligations.RequestsRefusedOrDisabled : Prop :=
  ∀ (chain tag preq duration : Byte) (desc : Descriptor) (s : State), s.rstHeld = false →
    let refused := fun code : Byte => s.answerLink 0x01 [0x02, tag, chain, 0, 0, 0, 0, 0, 0, code]
    (3 < chain.toNat → exec (.burstReq chain tag preq duration desc) s = .next (refused 0x01)) ∧
    ∀ c : Chain, chain.toNat = c.val →
      (duration = 0 → exec (.burstReq chain tag preq duration desc) s = .next (refused 0x02)) ∧
      (duration ≠ 0 → 2 ≤ s.grants.chains[c].opened.length →
        exec (.burstReq chain tag preq duration desc) s = .next (refused 0x03)) ∧
      (duration ≠ 0 → s.grants.chains[c].opened.length < 2 → (∃ g ∈ s.grants.chains[c].opened, g.tag = tag) →
        exec (.burstReq chain tag preq duration desc) s = .next (refused 0x04)) ∧
      (duration ≠ 0 → s.grants.chains[c].opened.length < 2 → (∀ g ∈ s.grants.chains[c].opened, g.tag ≠ tag) →
        s.context.current.chains[c].enabled = false →
        exec (.burstReq chain tag preq duration desc) s =
          .next (State.answerLink
            { s with
              engine := s.engine.set c
                { s.engine[c] with
                  withheld := if s.engine[c].withheld < 65535 then s.engine[c].withheld + 1
                    else s.engine[c].withheld
                  lastFactor := .policy } }
            0x01 [0x01, tag, chain, 0, 0, 0x01, 0, toByte (flagWeight (s.framed c) 1), 0x01, 0]))

/-- R19, R28 to R34, R39, R40 on an enabled chain that is not TRIPPED: a candidate at or above the chain's
minimum is granted, its record opened at the young end and both sums grown; a lower one, or none, is WITHHELD
BELOW_MIN. The counters and the last factor follow. -/
def Obligations.CandidateIsGrantedOrWithheld : Prop :=
  ∀ (c : Chain) (tag preq duration : Byte) (desc : Descriptor) (s : State),
    s.rstHeld = false → duration ≠ 0 → s.grants.chains[c].opened.length < 2 →
    (∀ g ∈ s.grants.chains[c].opened, g.tag ≠ tag) → s.context.current.chains[c].enabled = true →
    s.thermal.chains[c].state ≠ .tripped →
    let cls := (s.classify desc).1
    let k := (s.classify desc).2
    let d := min duration.toNat 64
    let l := s.ceilings c k d
    let g := floorStep l preq.toNat k.floor
    let f := limitingFactor l preq.toNat k.floor g
    let e := s.engine[c]
    let framed := toByte (flagWeight (s.framed c) 1)
    (∀ p : Nat, g.code = some p → s.context.current.chains[c].minimum ≤ p →
      exec (.burstReq (toByte c.val) tag preq duration desc) s =
        .next (State.answerLink
          { s with
            engine := s.engine.set c
              { e with
                issued := count16 e.issued
                reduced := if p < preq.toNat then count16 e.reduced else e.reduced
                lastFactor := f }
            grants :=
              { chains := s.grants.chains.set c
                  { s.grants.chains[c] with
                    opened := s.grants.chains[c].opened ++
                      [⟨tag, p, linearPower p, d, linearPower p * d / 64, s.context.current.lifetime⟩]
                    reserved := s.grants.chains[c].reserved + linearPower p * d / 64 }
                poolSum := s.grants.poolSum + linearPower p } }
          0x01 [0x00, tag, toByte c.val, toByte p, toByte (preq.toNat - p), toByte f.code, toByte cls.val,
            framed, 0, 0])) ∧
    (codeBelow g.code s.context.current.chains[c].minimum = true →
      exec (.burstReq (toByte c.val) tag preq duration desc) s =
        .next (State.answerLink
          { s with engine := s.engine.set c { e with withheld := count16 e.withheld, lastFactor := f } }
          0x01 [0x01, tag, toByte c.val, 0, 0, toByte f.code, toByte cls.val, framed, 0x03, 0]))

/-- R27, R29 to R34, R39, R40: a request on a TRIPPED chain is WITHHELD TRIP unless its class has the trip-pass
flag and a floor; then its candidate is the least of the request, the floor and the hard ceiling. A candidate at or
above the chain's minimum is granted, its record opened at the young end and both sums grown; a lower one, or none,
is WITHHELD BELOW_MIN. The counters, the last factor and the GRANT record follow. -/
def Obligations.TrippedChainNeedsTripPass : Prop :=
  ∀ (c : Chain) (tag preq duration : Byte) (desc : Descriptor) (s : State),
    s.rstHeld = false → duration ≠ 0 → s.grants.chains[c].opened.length < 2 →
    (∀ g ∈ s.grants.chains[c].opened, g.tag ≠ tag) → s.context.current.chains[c].enabled = true →
    s.thermal.chains[c].state = .tripped →
    let cls := (s.classify desc).1
    let k := (s.classify desc).2
    let d := min duration.toNat 64
    let l := s.ceilings c k d
    let e := s.engine[c]
    let framed := toByte (flagWeight (s.framed c) 1)
    let least := minCode (some (min preq.toNat k.floor)) l.hard
    let f := limitingFactor l preq.toNat k.floor ⟨least, true⟩
    ((k.tripPass = false ∨ k.floor = 0) →
      exec (.burstReq (toByte c.val) tag preq duration desc) s =
        .next (State.answerLink
          { s with engine := s.engine.set c { e with withheld := count16 e.withheld, lastFactor := .thermal } }
          0x01 [0x01, tag, toByte c.val, 0, 0, 0x05, toByte cls.val, framed, 0x02, 0])) ∧
    (∀ h : Nat, k.tripPass = true → 0 < k.floor → l.hard = some h →
      s.context.current.chains[c].minimum ≤ min (min preq.toNat k.floor) h →
      let p := min (min preq.toNat k.floor) h
      exec (.burstReq (toByte c.val) tag preq duration desc) s =
        .next (State.answerLink
          { s with
            engine := s.engine.set c
              { e with
                issued := count16 e.issued
                reduced := if p < preq.toNat then count16 e.reduced else e.reduced
                lastFactor := f }
            grants :=
              { chains := s.grants.chains.set c
                  { s.grants.chains[c] with
                    opened := s.grants.chains[c].opened ++
                      [⟨tag, p, linearPower p, d, linearPower p * d / 64, s.context.current.lifetime⟩]
                    reserved := s.grants.chains[c].reserved + linearPower p * d / 64 }
                poolSum := s.grants.poolSum + linearPower p } }
          0x01 [0x00, tag, toByte c.val, toByte p, toByte (preq.toNat - p), toByte f.code, toByte cls.val,
            framed, 0, 0])) ∧
    (k.tripPass = true → 0 < k.floor →
      (l.hard = none ∨
        ∃ h : Nat, l.hard = some h ∧ min (min preq.toNat k.floor) h < s.context.current.chains[c].minimum) →
      exec (.burstReq (toByte c.val) tag preq duration desc) s =
        .next (State.answerLink
          { s with engine := s.engine.set c { e with withheld := count16 e.withheld, lastFactor := f } }
          0x01 [0x01, tag, toByte c.val, 0, 0, toByte f.code, toByte cls.val, framed, 0x03, 0]))

/-- The laws of R27 and R30 in every state: a request that opens a record opens one at a code at or below the
request, the policy ceiling, the pool ceiling and the mismatch cap in force, and at or above the minimum; the
pool sum then does not exceed the effective pool limit; and a TRIPPED chain opens one only for a trip-pass class
with a floor. -/
def Obligations.IssuedGrantsObeyTheCeilings : Prop :=
  ∀ (c : Chain) (tag preq duration : Byte) (desc : Descriptor) (s t : State),
    exec (.burstReq (toByte c.val) tag preq duration desc) s = .next t →
    s.grants.chains[c].opened.length < t.grants.chains[c].opened.length →
    (∃ r : OpenGrant, t.grants.chains[c].opened = s.grants.chains[c].opened ++ [r] ∧
      r.code ≤ preq.toNat ∧ r.code ≤ s.context.current.chains[c].ceiling ∧
      (∃ q : Nat, linv ((s.supply.limit : Int) - s.grants.poolSum) = some q ∧ r.code ≤ q) ∧
      (s.mismatch.chains[c].state = .mismatched → r.code ≤ s.mismatch.settings.cap) ∧
      (s.loader.load = .loading → r.code ≤ 160) ∧
      s.context.current.chains[c].minimum ≤ r.code) ∧
    t.grants.poolSum ≤ t.supply.limit ∧
    (s.thermal.chains[c].state = .tripped →
      (s.classify desc).2.tripPass = true ∧ 0 < (s.classify desc).2.floor)

/-- R2, R26: the soft and the hard ceiling are the least of their members, none when a member is none. R28: the
first candidate is the least of the request, Soft and Hard; with a floor, and the candidate below the lower of floor
and request, it becomes the least of floor, request and Hard, and the floor step is noted when that changed it.
R31: the factor is NONE for a candidate equal to the request, FLOOR for one the floor step or the trip path of R27
set at the floor, and otherwise the first ceiling, in the order POLICY, POOL, MISMATCH, STARTUP, THERMAL, SCHEDULE,
WINDOW, that equals the candidate, which the third test always finds. The floor step never lowers the candidate and
keeps within the request and Hard. -/
def Obligations.CandidateHasALimitingCeiling : Prop :=
  ∀ (l : Ceilings) (preq floor : Nat),
    let first := minCode (minCode (some preq) l.soft) l.hard
    let g := floorStep l preq floor
    (∀ a b c : Nat, l.th = some a → l.sch = some b → l.win = some c → l.soft = some (min (min a b) c)) ∧
    (l.th = none ∨ l.sch = none ∨ l.win = none → l.soft = none) ∧
    (∀ a b c d : Nat, l.pol = some a → l.pool = some b → l.mm = some c → l.start = some d →
      l.hard = some (min (min (min a b) c) d)) ∧
    (l.pol = none ∨ l.pool = none ∨ l.mm = none ∨ l.start = none → l.hard = none) ∧
    (∀ a b : Nat, l.soft = some a → l.hard = some b → first = some (min (min preq a) b)) ∧
    (l.soft = none ∨ l.hard = none → first = none) ∧
    (floor = 0 → g = ⟨first, false⟩) ∧
    (∀ a : Nat, first = some a → min floor preq ≤ a → g = ⟨first, false⟩) ∧
    (0 < floor → (first = none ∨ ∃ a : Nat, first = some a ∧ a < min floor preq) →
      (l.hard = none → g = ⟨none, false⟩) ∧
      ∀ h : Nat, l.hard = some h →
        g.code = some (min (min floor preq) h) ∧ (g.byFloor = true ↔ g.code ≠ first)) ∧
    (∀ a : Nat, first = some a → ∃ b : Nat, g.code = some b ∧ a ≤ b) ∧
    (∀ b : Nat, g.code = some b → b ≤ preq ∧ ∃ h : Nat, l.hard = some h ∧ b ≤ h) ∧
    (∀ h : Nat, l.hard = some h → tripPath l preq floor = ⟨some (min (min preq floor) h), true⟩) ∧
    (l.hard = none → tripPath l preq floor = ⟨none, true⟩) ∧
    ∀ x : Candidate, x = g ∨ (x = tripPath l preq floor) →
      let f := limitingFactor l preq floor x
      (x.code = some preq → f = .unlimited) ∧
      (x.code ≠ some preq → x.byFloor = true → x.code = some floor → f = .floor) ∧
      (x.code ≠ some preq → ¬(x.byFloor = true ∧ x.code = some floor) →
        ∃ before after : List (Option Nat × Factor),
          [(l.pol, Factor.policy), (l.pool, .pool), (l.mm, .mismatch), (l.start, .startup), (l.th, .thermal),
            (l.sch, .schedule), (l.win, .window)] = before ++ (x.code, f) :: after ∧
          ∀ y ∈ before, y.1 ≠ x.code)

/-- R20 to R25, R84: the seven ceilings of a request, in the words of their rules. -/
def Obligations.CeilingsAreFormedFromTheFigures : Prop :=
  ∀ (s : State) (c : Chain) (k : ClassEntry) (d : Nat),
    let l := s.ceilings c k d
    let x := s.context.current.chains[c]
    let t := s.thermal.chains[c]
    let q := s.sequencer
    let remaining := x.windowLimit - (s.windows.chains[c].sum + s.grants.chains[c].reserved)
    l.pol = some x.ceiling ∧
    (t.state = .normal → l.th = some x.ceiling) ∧
    (t.state = .warm ∨ t.state = .tripped →
      l.th = some (x.ceiling -
        (max 0 (min 127 (((t.estimate - t.coeffs.knee) * t.coeffs.slope) / 256))).toNat)) ∧
    (t.state = .unknown → l.th = some (x.ceiling - 127)) ∧
    (q.InRun → (q.program[q.step]).mask.getLsbD c.val = true → k.exempt = false →
      l.sch = some (x.ceiling - q.b)) ∧
    (¬q.InRun ∨ (q.program[q.step]).mask.getLsbD c.val = false ∨ k.exempt = true → l.sch = some 255) ∧
    (remaining = 0 → l.win = none) ∧ l.win = linv ((remaining * 64 / d : Nat) : Int) ∧
    (s.supply.limit ≤ s.grants.poolSum → l.pool = none) ∧
    (s.grants.poolSum < s.supply.limit →
      l.pool = linv (((s.supply.limit - s.grants.poolSum : Nat)) : Int)) ∧
    (s.mismatch.chains[c].state = .mismatched → l.mm = some s.mismatch.settings.cap) ∧
    (s.mismatch.chains[c].state = .clear → l.mm = some 255) ∧
    (s.loader.load = .loading → l.start = some 160) ∧ (s.loader.load = .ready → l.start = some 255)

/-- R36, R37, R34, R52: READ_CHAIN answers the chain report and, with the clear flag, zeroes the chain's four
counters and leaves its last limiting factor; other operands are refused with RANGE. -/
def Obligations.ReadChainReportsAndClears : Prop :=
  ∀ (s : State) (chain clear : Byte), s.Serving 0x10 →
    (∀ c : Chain, chain.toNat = c.val →
      (clear = 0 → exec (.readChain [chain, clear]) s = .next (s.reply .ok (s.chainReport c))) ∧
      (clear = 1 → exec (.readChain [chain, clear]) s =
        .next (State.reply
          { s with
            engine := s.engine.set c ⟨0, 0, 0, s.engine[c].lastFactor⟩
            grants := { s.grants with
              chains := s.grants.chains.set c { s.grants.chains[c] with lateCloses := 0 } } }
          .ok (s.chainReport c)))) ∧
    (3 < chain.toNat ∨ 1 < clear.toNat → exec (.readChain [chain, clear]) s = .next (s.reply .range []))

/-! ### Closes and lapses -/

/-- R44: a close whose tag is not in the chain's list is answered UNKNOWN_TAG and counted late, and nothing else
changes; and a close with a chain above 3 is answered BAD_CHAIN and changes nothing (3.3). -/
def Obligations.UnknownCloseIsCountedLate : Prop :=
  ∀ (chain tag pact dact r : Byte) (s : State), s.rstHeld = false →
    (∀ c : Chain, chain.toNat = c.val → (∀ g ∈ s.grants.chains[c].opened, g.tag ≠ tag) →
      exec (.burstClose chain tag pact dact r) s =
        .next (State.answerLink
          { s with grants :=
            { s.grants with
              chains := s.grants.chains.set c
                { s.grants.chains[c] with
                  lateCloses := if s.grants.chains[c].lateCloses < 65535
                    then s.grants.chains[c].lateCloses + 1 else s.grants.chains[c].lateCloses } } }
          0x02 [0x02, chain, tag])) ∧
    (3 < chain.toNat →
      exec (.burstClose chain tag pact dact r) s = .next (s.answerLink 0x02 [0x03, chain, tag]))

/-- R45 to R47, R49: a close of the oldest record tests the figures for excess, charges the reported figures,
passes the reflect code when a burst was sent, with what that raises, and removes the record. -/
def Obligations.CloseOfOldestRecord : Prop :=
  ∀ (c : Chain) (tag pact dact r : Byte) (s : State) (g : OpenGrant) (rest : List OpenGrant),
    s.rstHeld = false → s.grants.chains[c].opened = g :: rest → g.tag = tag →
    let d := min dact.toNat 64
    let excess := 1 ≤ d ∧ (g.code < pact.toNat ∨ g.duration < d)
    let u := s.reflectCode c (min r.toNat 15)
    ∃ t : State, exec (.burstClose (toByte c.val) tag pact dact r) s = .next t ∧
      t.grants = ⟨s.grants.chains.set c
          { s.grants.chains[c] with opened := rest, reserved := s.grants.chains[c].reserved - g.projected },
        s.grants.poolSum - g.power⟩ ∧
      t.windows = { s.windows with
        chains := s.windows.chains.set c (s.windows.chains[c].charge s.windows.current pact.toNat d) } ∧
      (excess → t.events.records[5] = s.events.records[5].take (eventMask (chainBit c))) ∧
      (¬excess → t.events.records[5] = s.events.records[5]) ∧
      (∀ i : Fin 9, i ≠ 3 → i ≠ 5 → t.events.records[i] = s.events.records[i]) ∧
      (d = 0 → t.mismatch = s.mismatch ∧ t.notices = s.notices ∧ t.sequencer = s.sequencer ∧
        t.events = s.events) ∧
      (1 ≤ d → t.mismatch = u.mismatch ∧ t.notices = u.notices ∧ t.sequencer = u.sequencer ∧
        t.events.records[3] = u.events.records[3] ∧ t.events.latch = u.events.latch) ∧
      t.events.alertMask = s.events.alertMask ∧
      t.link = { s.link with response := s.linkHeader 0x02 ++ [0x00, toByte c.val, tag] } ∧
      t = { s with
        grants := t.grants, windows := t.windows, events := t.events, mismatch := t.mismatch,
        notices := t.notices, sequencer := t.sequencer, link := t.link }

/-- R48: a close of the younger of two records lapses the older first, charged as granted with a LAPSE event,
then closes the named one at its reported figures, whose charge reads the residue the lapse left; the list is
then empty and the answer is CLOSED_WITH_LAPSE. -/
def Obligations.OutOfOrderCloseLapsesTheOlder : Prop :=
  ∀ (c : Chain) (tag pact dact r : Byte) (s : State) (old g : OpenGrant),
    s.rstHeld = false → s.grants.chains[c].opened = [old, g] → old.tag ≠ tag → g.tag = tag →
    let d := min dact.toNat 64
    let w := s.windows.chains[c]
    let u := s.reflectCode c (min r.toNat 15)
    ∃ t : State, exec (.burstClose (toByte c.val) tag pact dact r) s = .next t ∧
      t.grants = ⟨s.grants.chains.set c
          { s.grants.chains[c] with
            opened := []
            reserved := s.grants.chains[c].reserved - old.projected - g.projected },
        s.grants.poolSum - old.power - g.power⟩ ∧
      t.windows = { s.windows with
        chains := s.windows.chains.set c
          ((w.charge s.windows.current old.code old.duration).charge s.windows.current pact.toNat d) } ∧
      t.events.records[6] = s.events.records[6].take (eventMask (chainBit c)) ∧
      (1 ≤ d ∧ (g.code < pact.toNat ∨ g.duration < d) →
        t.events.records[5] = s.events.records[5].take (eventMask (chainBit c))) ∧
      (¬(1 ≤ d ∧ (g.code < pact.toNat ∨ g.duration < d)) → t.events.records[5] = s.events.records[5]) ∧
      (∀ i : Fin 9, i ≠ 3 → i ≠ 5 → i ≠ 6 → t.events.records[i] = s.events.records[i]) ∧
      (d = 0 → t.mismatch = s.mismatch ∧ t.notices = s.notices ∧ t.sequencer = s.sequencer ∧
        t.events.records[3] = s.events.records[3] ∧ t.events.latch = s.events.latch) ∧
      (1 ≤ d → t.mismatch = u.mismatch ∧ t.notices = u.notices ∧ t.sequencer = u.sequencer ∧
        t.events.records[3] = u.events.records[3] ∧ t.events.latch = u.events.latch) ∧
      t.events.alertMask = s.events.alertMask ∧
      t.link = { s.link with response := s.linkHeader 0x02 ++ [0x01, toByte c.val, tag] } ∧
      t = { s with
        grants := t.grants, windows := t.windows, events := t.events, mismatch := t.mismatch,
        notices := t.notices, sequencer := t.sequencer, link := t.link }

/-- R50: a lapse charges the chain at the grant's own figures, records LAPSE with the chain's bit and removes the
record; it answers no port, passes no reflect code and queues no notice. -/
def Obligations.LapseChargesAsGranted : Prop :=
  ∀ (c : Chain) (s : State) (before after : List OpenGrant) (g : OpenGrant),
    s.rstHeld = false → s.grants.chains[c].opened = before ++ g :: after →
    (∀ x ∈ before, x.tag ≠ g.tag) →
    exec (.lapse c g.tag) s =
      .next { s with
        windows := { s.windows with
          chains := s.windows.chains.set c (s.windows.chains[c].charge s.windows.current g.code g.duration) }
        events := { s.events with
          records := s.events.records.set 6
            ⟨true, s.events.records[6].mask ||| eventMask (chainBit c),
              if s.events.records[6].count < 255 then s.events.records[6].count + 1
                else s.events.records[6].count⟩ }
        grants := ⟨s.grants.chains.set c
            { s.grants.chains[c] with
              opened := before ++ after
              reserved := s.grants.chains[c].reserved - g.projected },
          s.grants.poolSum - g.power⟩ }

/-- R54: LINK_RESET charges every open grant as granted, oldest first on each chain, empties the lists and the
Notice Queue and is answered OK; it records no event and leaves the counters and the epoch. -/
def Obligations.LinkResetEmptiesListsAndNotices : Prop :=
  ∀ s : State, s.rstHeld = false →
    exec .linkReset s =
      .next { s with
        grants := ⟨Vector.ofFn fun c : Fin 4 =>
          { s.grants.chains[c] with opened := [], reserved := 0 }, 0⟩
        windows := { s.windows with
          chains := Vector.ofFn fun c : Fin 4 =>
            s.grants.chains[c].opened.foldl
              (fun w g => w.charge s.windows.current g.code g.duration) s.windows.chains[c] }
        notices := []
        link := { s.link with response := s.linkHeader 0x05 ++ [0x00] } }

/-- R150, R151, R166: what a reflect code does to its chain's mismatch record in each state, and what entering
and leaving MISMATCHED raise: the entry its event, its notice and its trigger, which passes when it is enabled, the
latch clear and the part READY; the return to CLEAR its notice alone. -/
def Obligations.ReflectCodesMoveTheMismatchState : Prop :=
  ∀ (s : State) (c : Chain) (r : Nat),
    let m := s.mismatch.chains[c]
    let x := s.mismatch.settings
    let nOver := min (m.overRun + 1) 15
    let nUnder := min (m.underRun + 1) 15
    let wrote := fun n : MismatchChain => { s.mismatch with chains := s.mismatch.chains.set c n }
    let passes := s.context.current.triggers.getLsbD 2 = true ∧ s.events.latch = none ∧ s.loader.load = .ready
    let t := s.reflectCode c r
    (m.state = .clear → r < x.threshold →
      t = { s with mismatch := wrote { m with overRun := 0 } }) ∧
    (m.state = .clear → x.threshold ≤ r → nOver < x.runCount →
      t = { s with mismatch := wrote { m with overRun := nOver } }) ∧
    (m.state = .clear → x.threshold ≤ r → x.runCount ≤ nOver →
      t.mismatch = wrote ⟨.mismatched, 0, 0⟩ ∧
      t.events.records[3] = s.events.records[3].take (eventMask (chainBit c)) ∧
      t.notices = arrive ⟨.mismatchChange, chainBit c, (maskOf fun n => decide (n = c ∨
        s.mismatch.chains[n].state = .mismatched)).zeroExtend 16⟩ s.notices ∧
      (∀ i : Fin 9, i ≠ 3 → t.events.records[i] = s.events.records[i]) ∧
      t.events.alertMask = s.events.alertMask ∧
      (passes → t.events.latch = some .mismatch ∧
        t.sequencer = s.sequencer.takeStart s.sequencer.triggers[2]) ∧
      (¬passes → t.events.latch = s.events.latch ∧ t.sequencer = s.sequencer) ∧
      t = { s with
        mismatch := t.mismatch, events := t.events, notices := t.notices, sequencer := t.sequencer }) ∧
    (m.state = .mismatched → max (x.threshold - x.release) 1 ≤ r →
      t = { s with mismatch := wrote { m with underRun := 0 } }) ∧
    (m.state = .mismatched → r < max (x.threshold - x.release) 1 → nUnder < x.runCount →
      t = { s with mismatch := wrote { m with underRun := nUnder } }) ∧
    (m.state = .mismatched → r < max (x.threshold - x.release) 1 → x.runCount ≤ nUnder →
      t = { s with
        mismatch := wrote ⟨.clear, 0, 0⟩
        notices := arrive ⟨.mismatchChange, chainBit c, (maskOf fun n => decide (n ≠ c ∧
          s.mismatch.chains[n].state = .mismatched)).zeroExtend 16⟩ s.notices })

/-! ### Windows -/

/-- R64: at a bucket expiry each ring's oldest bucket leaves the window sum, is cleared and becomes current; the
timer runs on. R67, R68: an accepted SET_WINDOW_SHAPE empties every ring, makes position 0 current and restarts
the timer, keeping residues and heat-in; other operands are refused with RANGE. -/
def Obligations.BucketExpiryAndWindowShape : Prop :=
  (∀ s : State, s.rstHeld = false → s.windows.timer.isSome = true →
    let oldest := (s.windows.current + 1) % s.windows.shape.count
    exec .bucketExpiry s =
      .next { s with windows := { s.windows with
        current := oldest
        chains := Vector.ofFn fun c : Fin 4 =>
          { s.windows.chains[c] with
            sum := s.windows.chains[c].sum - (s.windows.chains[c].ring.getD oldest ⟨0, false⟩).energy
            ring := s.windows.chains[c].ring.set oldest ⟨0, false⟩ } } }) ∧
  ∀ (nb selector : Byte) (s : State), s.Serving 0x11 →
    (∀ (period : BucketPeriod) (micros : Nat), 8 ≤ nb.toNat → nb.toNat ≤ 32 →
      (selector.toNat, period, micros) ∈
        [(0, .ms31, 31250), (1, .ms62, 62500), (2, .ms125, 125000), (3, .ms250, 250000)] →
      exec (.setWindowShape [nb, selector]) s =
        .next (State.reply
          { s with windows :=
            { shape := ⟨nb.toNat, period⟩
              current := 0
              timer := some micros
              chains := Vector.ofFn fun c : Fin 4 =>
                { s.windows.chains[c] with ring := List.replicate nb.toNat ⟨0, false⟩, sum := 0 } } }
          .ok [])) ∧
    (nb.toNat < 8 ∨ 32 < nb.toNat ∨ 3 < selector.toNat →
      exec (.setWindowShape [nb, selector]) s = .next (s.reply .range []))

/-! ### Thermal estimation -/

/-- R77, R78: a model step moves every estimate by its rise and fall, clamped and flagged, re-evaluates every
state, and consumes every heat-in accumulator; the board record, the coefficients and the valid runs stand. -/
def Obligations.ModelStepMovesEveryEstimate : Prop :=
  ∀ s : State, s.rstHeld = false → s.thermal.timer.isSome = true →
    ∃ t : State, exec .modelStep s = .next t ∧
      (∀ c : Chain,
        let u := s.thermal.chains[c]
        let x : Int := u.estimate + ((s.windows.chains[c].heatIn * u.coeffs.heatGain / 2 ^ 24 : Nat) : Int)
          - ((u.estimate - s.thermal.board.temp) * u.coeffs.coolGain) / 256
        let y := max (-640) (min 2400 x)
        t.thermal.chains[c] =
          { u with estimate := y, pinned := decide (y ≠ x), state := reevaluated u.coeffs y u.state } ∧
        t.windows.chains[c] = { s.windows.chains[c] with heatIn := 0 }) ∧
      t.thermal.board = s.thermal.board ∧ t.thermal.fallback = s.thermal.fallback ∧
      t.thermal.period = s.thermal.period ∧ t.thermal.timer = s.thermal.timer ∧
      t.windows.shape = s.windows.shape ∧ t.windows.current = s.windows.current ∧
      t.windows.timer = s.windows.timer ∧
      t = { s with
        thermal := t.thermal, windows := t.windows, events := t.events, notices := t.notices,
        sequencer := t.sequencer }

/-- R85, R86, R166 at a model step: each chain that enters TRIPPED counts one TRIP event with its bit; when any
tripped condition changed, one TRIP_CHANGE arrives, its mask the chains that changed and its value the tripped
mask after; the TRIP trigger starts one schedule, when a chain entered and the gate lets it pass. -/
def Obligations.TripsAreAnnouncedOnce : Prop :=
  ∀ s t : State, s.rstHeld = false → s.thermal.timer.isSome = true → s.events.records[2].count ≤ 255 →
    exec .modelStep s = .next t →
    let entered := allChains.filter fun c : Chain =>
      decide (s.thermal.chains[c].state ≠ .tripped ∧ t.thermal.chains[c].state = .tripped)
    let changed := maskOf fun c : Chain =>
      decide (¬(s.thermal.chains[c].state = .tripped ↔ t.thermal.chains[c].state = .tripped))
    let tripped := maskOf fun c : Chain => decide (t.thermal.chains[c].state = .tripped)
    t.events.records[2].count = min 255 (s.events.records[2].count + entered.length) ∧
    (∀ c ∈ entered, t.events.records[2].raised = true ∧ t.events.records[2].mask.getLsbD c.val = true) ∧
    (entered = [] → t.events = s.events ∧ t.sequencer = s.sequencer) ∧
    (changed = 0 → t.notices = s.notices) ∧
    (changed ≠ 0 → t.notices = arrive ⟨.tripChange, changed, tripped.zeroExtend 16⟩ s.notices) ∧
    (entered ≠ [] → s.triggerPasses .trip = true →
      t.events.latch = some .trip ∧ t.sequencer = s.sequencer.takeStart s.sequencer.triggers[1]) ∧
    (s.triggerPasses .trip = false → t.events.latch = s.events.latch ∧ t.sequencer = s.sequencer) ∧
    s.TripsRaised t ∧ t.notices = s.toldTrips t s.notices ∧
    (∀ i : Fin 9, i ≠ 2 → t.events.records[i] = s.events.records[i]) ∧
    t.events.alertMask = s.events.alertMask

/-- R75, R76: an accepted SET_THERMAL writes the chain's coefficients, the fallback and the step period, clamped;
moves a fallback board temperature; restarts the step timer on a new period; and re-evaluates that chain's state,
with the TRIP event, the TRIP_CHANGE and the trigger of R85, R86 and R166 when its tripped condition changes. Other
operands are refused with RANGE. -/
def Obligations.SetThermalWritesCoefficients : Prop :=
  ∀ (chain kh1 kh0 kd g slope kn1 kn0 tr1 tr0 hy1 hy0 fb1 fb0 selector : Byte) (s : State), s.Serving 0x12 →
    let clamp := fun x : Int => max (-640) (min 2400 x)
    let knee := clamp (kn1 ++ kn0).toInt
    let trip := clamp (tr1 ++ tr0).toInt
    let fallback := clamp (fb1 ++ fb0).toInt
    let p := [chain, kh1, kh0, kd, g, slope, kn1, kn0, tr1, tr0, hy1, hy0, fb1, fb0, selector]
    let k : ThermalCoeffs :=
      ⟨kh1.toNat * 256 + kh0.toNat, kd.toNat, min g.toNat 16, knee, trip,
        min (hy1.toNat * 256 + hy0.toNat) 640, slope.toNat⟩
    (∀ (c : Chain) (period : StepPeriod) (micros : Nat), chain.toNat = c.val →
      (selector.toNat, period, micros) ∈
        [(0, .ms62, 62500), (1, .ms125, 125000), (2, .ms250, 250000), (3, .ms500, 500000)] →
      knee < trip →
      ∃ t : State, exec (.setThermal p) s = .next t ∧
        t.thermal.chains = s.thermal.chains.set c
          { s.thermal.chains[c] with
            coeffs := k
            state := reevaluated k s.thermal.chains[c].estimate s.thermal.chains[c].state } ∧
        t.thermal.fallback = fallback ∧ t.thermal.period = period ∧
        t.thermal.timer = (if period = s.thermal.period then s.thermal.timer else some micros) ∧
        t.thermal.board = (if s.thermal.board.onFallback then
          { s.thermal.board with temp := fallback, pinned := false } else s.thermal.board) ∧
        t.policy = ⟨none, ⟨.ok, []⟩, s.policy.address⟩ ∧
        s.TripsRaised t ∧ t.notices = s.toldTrips t s.notices ∧
        (∀ i : Fin 9, i ≠ 2 → t.events.records[i] = s.events.records[i]) ∧
        t.events.alertMask = s.events.alertMask ∧
        t = { s with
          thermal := t.thermal, events := t.events, notices := t.notices, sequencer := t.sequencer,
          policy := t.policy }) ∧
    (3 < chain.toNat ∨ 3 < selector.toNat ∨ trip ≤ knee →
      exec (.setThermal p) s = .next (s.reply .range []))

/-- R79 to R83: what a delivery does to a chain's record, and the thermal state test; R98: a delivery of input 0
to 3 acts so on the chain of its number and leaves the other chains, the board record and the settings. -/
def Obligations.ChainSamplesBlendAndLeaveUnknown : Prop :=
  (∀ (k : ThermalCoeffs) (x : Int) (u : ThermalState), k.knee < k.trip → u = .normal ∨ u = .warm →
    (x < k.knee → reevaluated k x u = .normal) ∧
    (k.knee ≤ x → x < k.trip → reevaluated k x u = .warm) ∧
    (k.trip ≤ x → reevaluated k x u = .tripped)) ∧
  (∀ (k : ThermalCoeffs) (x : Int),
    (k.trip - k.hysteresis ≤ x → reevaluated k x .tripped = .tripped) ∧
    (x < k.trip - k.hysteresis → k.knee ≤ x → reevaluated k x .tripped = .warm) ∧
    (x < k.trip - k.hysteresis → x < k.knee → reevaluated k x .tripped = .normal) ∧
    reevaluated k x .unknown = .unknown) ∧
  (∀ (x : ThermalEstimator) (c : Chain) (i : Input) (d : Delivery), i.val = c.val →
    x.deliver i d = { x with chains := x.chains.set c (x.chains[c].deliver d x.board.seedPending) }) ∧
  ∀ (u : ThermalChain) (sample : Int) (flag pending : Bool),
    let moved := u.estimate + Int.tdiv ((sample - u.estimate) * u.coeffs.blendGain) 16
    let y := max (-640) (min 2400 moved)
    let v := u.deliver (.valid sample flag) pending
    (pending = false → v.estimate = y ∧ v.pinned = decide (y ≠ moved)) ∧
    (pending = true → v.estimate = u.estimate ∧ v.pinned = u.pinned) ∧
    (u.state ≠ .unknown → pending = false →
      v.state = reevaluated u.coeffs y u.state ∧ v.validRun = u.validRun) ∧
    (u.state ≠ .unknown → pending = true → v = u) ∧
    (u.state = .unknown → u.validRun = 0 → v.state = .unknown ∧ v.validRun = 1) ∧
    (u.state = .unknown → 1 ≤ u.validRun →
      v.validRun = 0 ∧ v.state = reevaluated u.coeffs v.estimate .normal) ∧
    (u.state ≠ .unknown → u.deliver .invalid pending = u) ∧
    (u.state = .unknown → u.deliver .invalid pending = { u with validRun := 0 }) ∧
    u.deliver .loss pending = { u with state := .unknown, validRun := 0 } ∧
    v.coeffs = u.coeffs

/-- R87, R88: what a delivery of input 4 does to the estimator. -/
def Obligations.BoardSamplesSeedThenFollow : Prop :=
  ∀ (t : ThermalEstimator) (sample : Int) (flag : Bool),
    (t.board.seedPending = true →
      (t.deliver 4 (.valid sample flag)).board = ⟨sample, flag, false, false⟩ ∧
      ∀ c : Chain, (t.deliver 4 (.valid sample flag)).chains[c] =
        { t.chains[c] with
          estimate := sample
          pinned := flag
          state := reevaluated t.chains[c].coeffs sample t.chains[c].state }) ∧
    (t.board.seedPending = false →
      t.deliver 4 (.valid sample flag) = { t with board := ⟨sample, flag, false, false⟩ }) ∧
    t.deliver 4 .invalid = t ∧
    t.deliver 4 .loss = { t with board := ⟨t.fallback, false, true, false⟩ }

/-! ### Sensors and classifier -/

/-- R94 to R98, R101: at a conversion expiry the input in flight takes its reading, converted with the copied
calibration; the fourth invalid reading of a run raises SENSOR_LOST and marks the delivery; the estimator takes
the delivery, whose blend, seeding, loss or exit from UNKNOWN raises the TRIP events, the TRIP_CHANGE and the trigger
of R85, R86 and R166; and the next input's conversion begins with its own calibration. -/
def Obligations.ConversionJudgesDeliversAndRotates : Prop :=
  ∀ (s : State) (v : Conversion) (raw : BitVec 12) (period : Nat), s.rstHeld = false →
    s.scanner.timer = some period → s.scanner.inFlight = some v →
    let r := s.scanner.inputs[v.input]
    let x : Int := v.cal.base + (((raw.toNat : Int) - v.cal.offset) * v.cal.gain) / 4096
    let y := max (-640) (min 2400 x)
    let good := raw ≠ 0 ∧ raw ≠ 4095
    let next : Input := v.input + 1
    ∃ t : State, exec (.conversionTimerExpiry raw) s = .next t ∧
      (good → t.scanner.inputs[v.input] =
          { r with lastValue := y, lastPinned := decide (y ≠ x), lastStatus := .valid, invalidRun := 0, lost := false } ∧
        t.thermal = s.thermal.deliver v.input (.valid y (decide (y ≠ x)))) ∧
      (¬good → r.invalidRun ≠ 3 → t.scanner.inputs[v.input] =
          { r with lastStatus := .invalid, invalidRun := min (r.invalidRun + 1) 4 } ∧
        t.thermal = s.thermal.deliver v.input .invalid ∧ t.events.records[4] = s.events.records[4]) ∧
      (¬good → r.invalidRun = 3 → t.scanner.inputs[v.input] =
          { r with lastStatus := .invalid, invalidRun := 4, lost := true } ∧
        t.thermal = s.thermal.deliver v.input .loss ∧
        t.events.records[4] = s.events.records[4].take (1#5 <<< v.input.val)) ∧
      (good → t.events.records[4] = s.events.records[4]) ∧
      (∀ i : Input, i ≠ v.input → t.scanner.inputs[i] = s.scanner.inputs[i]) ∧
      t.scanner.rotation = next ∧ t.scanner.inFlight = some ⟨next, s.scanner.inputs[next].cal⟩ ∧
      t.scanner.timer = some 2000 ∧
      s.TripsRaised t ∧ t.notices = s.toldTrips t s.notices ∧
      (∀ i : Fin 9, i ≠ 2 → i ≠ 4 → t.events.records[i] = s.events.records[i]) ∧
      t.events.alertMask = s.events.alertMask ∧
      t = { s with
        scanner := t.scanner, thermal := t.thermal, events := t.events, notices := t.notices,
        sequencer := t.sequencer }

/-- R99, R105, R107, R147, R149: the tables and settings written whole by their commands, clamped as their rules
say; operands out of range are refused with RANGE and write nothing. -/
def Obligations.TablesAndSettingsAreWritten : Prop :=
  ∀ s : State,
    (∀ input g1 g0 o1 o0 b1 b0 : Byte, s.Serving 0x13 →
      (∀ i : Input, input.toNat = i.val →
        exec (.setSensorCal [input, g1, g0, o1, o0, b1, b0]) s =
          .next (State.reply
            { s with scanner := { s.scanner with
              inputs := s.scanner.inputs.set i
                { s.scanner.inputs[i] with
                  cal := ⟨g1.toNat * 256 + g0.toNat, min (o1.toNat * 256 + o0.toNat) 4095,
                    max (-640) (min 2400 (b1 ++ b0).toInt)⟩ } } } .ok [])) ∧
      (4 < input.toNat →
        exec (.setSensorCal [input, g1, g0, o1, o0, b1, b0]) s = .next (s.reply .range []))) ∧
    (∀ cls floor flags : Byte, s.Serving 0x14 →
      (∀ k : Fin 8, cls.toNat = k.val → flags.toNat ≤ 3 →
        exec (.writeClass [cls, floor, flags]) s =
          .next (State.reply
            { s with classifier := { s.classifier with
              classes := s.classifier.classes.set k
                ⟨floor.toNat, flags.toNat % 2 == 1, flags.toNat / 2 == 1⟩ } } .ok [])) ∧
      (7 < cls.toNat ∨ 3 < flags.toNat →
        exec (.writeClass [cls, floor, flags]) s = .next (s.reply .range []))) ∧
    (∀ k1 k2 k3 k4 k5 : Fin 8, s.Serving 0x15 →
      exec (.setServiceMap [toByte k1.val, toByte k2.val, toByte k3.val, toByte k4.val, toByte k5.val]) s =
        .next (State.reply
          { s with classifier := { s.classifier with service := #v[k1, k2, k3, k4, k5] } } .ok [])) ∧
    (∀ m1 m2 m3 m4 m5 : Byte, s.Serving 0x15 →
      7 < m1.toNat ∨ 7 < m2.toNat ∨ 7 < m3.toNat ∨ 7 < m4.toNat ∨ 7 < m5.toNat →
      exec (.setServiceMap [m1, m2, m3, m4, m5]) s = .next (s.reply .range [])) ∧
    (∀ th me hr cap : Byte, s.Serving 0x31 →
      exec (.setMismatch [th, me, hr, cap]) s =
        .next (State.reply
          { s with mismatch := { s.mismatch with
            settings := ⟨max 1 (min th.toNat 15), max 1 (min me.toNat 15), min hr.toNat 15, cap.toNat⟩ } }
          .ok [])) ∧
    (∀ shift c2 c1 c0 hold d : Byte, s.Serving 0x30 →
      let settings : OverloadSettings :=
        ⟨min shift.toNat 3, c2.toNat * 65536 + c1.toNat * 256 + c0.toNat, hold.toNat, min d.toNat 7⟩
      exec (.setOverload [shift, c2, c1, c0, hold, d]) s =
        .next ((State.recomputeLimit { s with supply := { s.supply with settings := settings } }).reply
          .ok []))

/-- R109, R110: the three stages that class a request of a READY part, and class 7 with its built-in attributes
while LOADING. -/
def Obligations.ClassificationStages : Prop :=
  ∀ (s : State) (d : Descriptor),
    let hits := fun i : Fin 6 => s.classifier.matchers[i].state = .enabled ∧
      ∀ n : Fin 8, d[n] &&& s.classifier.matchers[i].mask[n] =
        s.classifier.matchers[i].value[n] &&& s.classifier.matchers[i].mask[n]
    (s.loader.load = .loading → s.classify d = (7, ⟨0, false, false⟩)) ∧
    (s.loader.load = .ready →
      (∀ i : Fin 6, hits i → (∀ j : Fin 6, j < i → ¬hits j) →
        (s.classify d).1 = s.classifier.matchers[i].cls) ∧
      ((∀ i : Fin 6, ¬hits i) →
        (∀ n : Fin 5, d[0].toNat = n.val + 1 → (s.classify d).1 = s.classifier.service[n]) ∧
        (d[0] = 0 ∨ 5 < d[0].toNat → (s.classify d).1 = 7)) ∧
      (s.classify d).2 = s.classifier.classes[(s.classify d).1])

/-- R111, R112: an accepted WRITE_MATCHER makes its matcher WRITING with the pending entry and starts the write
timer; a second is BUSY while any is WRITING; the completion gives every WRITING matcher its pending contents
and state, and stops the timer; operands out of range are refused before BUSY. -/
def Obligations.MatcherWritesPassThroughWriting : Prop :=
  (∀ (s : State) (index enable cls m0 m1 m2 m3 m4 m5 m6 m7 v0 v1 v2 v3 v4 v5 v6 v7 : Byte),
    s.Serving 0x16 →
    let p := [index, enable, m0, m1, m2, m3, m4, m5, m6, m7, v0, v1, v2, v3, v4, v5, v6, v7, cls]
    (∀ (i : Fin 6) (k : Fin 8), index.toNat = i.val → enable.toNat ≤ 1 → cls.toNat = k.val →
      (s.classifier.writing = false →
        exec (.writeMatcher p) s =
          .next (State.reply
            { s with classifier := { s.classifier with
              matchers := s.classifier.matchers.set i
                { s.classifier.matchers[i] with
                  state := .writing
                  pendingEntry := some ⟨enable.toNat == 1, #v[m0, m1, m2, m3, m4, m5, m6, m7],
                    #v[v0, v1, v2, v3, v4, v5, v6, v7], k⟩ }
              timer := some 1000 } } .ok [])) ∧
      (s.classifier.writing = true → exec (.writeMatcher p) s = .next (s.reply .busy []))) ∧
    (5 < index.toNat ∨ 1 < enable.toNat ∨ 7 < cls.toNat →
      exec (.writeMatcher p) s = .next (s.reply .range []))) ∧
  ∀ s : State, s.rstHeld = false → s.classifier.timer.isSome = true → s.MatcherLaw →
    ∃ t : State, exec .writeCompletion s = .next { s with classifier := t.classifier } ∧
      (∀ (i : Fin 6) (e : MatcherEntry), s.classifier.matchers[i].pendingEntry = some e →
        t.classifier.matchers[i] =
          ⟨if e.enable then .enabled else .disabled, e.mask, e.value, e.cls, none⟩) ∧
      (∀ i : Fin 6, s.classifier.matchers[i].pendingEntry = none →
        t.classifier.matchers[i] = s.classifier.matchers[i]) ∧
      t.classifier.writing = false ∧ t.classifier.timer = none ∧
      t.classifier.classes = s.classifier.classes ∧ t.classifier.service = s.classifier.service

/-! ### The sequencer -/

/-- R128: an accepted START_SCHEDULE begins STARTING in IDLE, replaces the run parameters in STARTING and becomes
or replaces the pending start elsewhere, with its disposition; a step above 23 is refused with RANGE. -/
def Obligations.StartScheduleByState : Prop :=
  ∀ (s : State) (a b n : Byte), s.Serving 0x23 →
    (∀ i j : Fin 24, a.toNat = i.val → b.toNat = j.val →
      let r : RunParams := ⟨i, j, n.toNat⟩
      let q := s.sequencer
      (q.state = .idle → exec (.startSchedule [a, b, n]) s =
        .next (State.reply { s with sequencer := { q with state := .starting, run := r } } .ok [0x00])) ∧
      (q.state = .starting → exec (.startSchedule [a, b, n]) s =
        .next (State.reply { s with sequencer := { q with run := r } } .ok [0x02])) ∧
      (q.InRun → q.pendingStart = none → exec (.startSchedule [a, b, n]) s =
        .next (State.reply { s with sequencer := { q with pendingStart := some r } } .ok [0x01])) ∧
      (q.InRun → q.pendingStart.isSome = true → exec (.startSchedule [a, b, n]) s =
        .next (State.reply { s with sequencer := { q with pendingStart := some r } } .ok [0x02]))) ∧
    (23 < a.toNat ∨ 23 < b.toNat → exec (.startSchedule [a, b, n]) s = .next (s.reply .range []))

/-- R122, R123, R125 to R127: a boundary in IDLE or FROZEN changes nothing; in STARTING it begins the run in
RUNNING at the start step, with SCHEDULE_START, then FRAME_ENTER when the step is framed, then
SCHEDULE_ENDING when the remaining figure is the lead (that the figures the rules do not list stand is the
model's reading, assumption 8). -/
def Obligations.BoundaryBeginsTheRun : Prop :=
  ∀ s : State, s.rstHeld = false → s.sequencer.timer.isSome = true →
    (s.sequencer.state = .idle ∨ s.sequencer.state = .frozen → exec .periodBoundary s = .next s) ∧
    (s.sequencer.state = .starting → s.sequencer.frame = false →
      let q := s.sequencer
      let p := q.program[q.run.start]
      let u : BackoffSequencer :=
        { q with
          state := .running
          step := q.run.start
          b0 := q.b
          b := if p.ramp = .hold then p.target else q.b
          k := 0
          increment := if p.ramp = .accel then p.accel else q.increment
          runCount := 0
          repeatsLeft := q.run.repeats
          frame := p.frame }
      let started := arrive ⟨.scheduleStart, p.mask, BitVec.ofNat 16 (q.run.start.val * 256 + q.run.stop.val)⟩
        s.notices
      let framed := if p.frame then arrive ⟨.frameEnter, p.mask, BitVec.ofNat 16 q.run.start.val⟩ started
        else started
      let ended := if 0 < q.settings.lead ∧ u.remaining = q.settings.lead then
        arrive ⟨.scheduleEnding, p.mask, BitVec.ofNat 16 q.settings.lead⟩ framed else framed
      exec .periodBoundary s = .next { s with sequencer := u, notices := ended })

/-- R123 to R126, R129: a running boundary that does not end the run advances k and the run count, moves B by the
ramp, and at the step's last period enters the next step, or the start step again with one repeat fewer, with its
frame notice; SCHEDULE_ENDING follows when the remaining figure is then the lead. R126: the remaining figure is the
rest of the step, the dwells of the steps after it up to the end step and F for each repeat left, bounded by what is
left before a breakpoint; each such boundary, short of a breakpoint of sixteen bits, lowers it by one (that the
increment stands at an entry whose ramp is not ACCEL is the model's reading, assumption 8). -/
def Obligations.RunningBoundaryMovesBackoff : Prop :=
  (∀ q : BackoffSequencer,
    let dwells := fun (first : Fin 24) (n : Nat) =>
      ((List.range n).map fun i => (q.program[first + Fin.ofNat 24 i]).dwell).sum
    let n := ((q.program[q.step]).dwell - q.k) + dwells (q.step + 1) (q.run.stop - q.step).val
      + dwells q.run.start ((q.run.stop - q.run.start).val + 1) * q.repeatsLeft
    q.remaining = if q.settings.breakpoint = 0 then n else min n (q.settings.breakpoint - q.runCount)) ∧
  ∀ s : State, s.rstHeld = false → s.sequencer.timer.isSome = true → s.sequencer.state = .running →
    let q := s.sequencer
    let p := q.program[q.step]
    let count := min (q.runCount + 1) 65535
    let b : Nat :=
      match p.ramp with
      | .hold => p.target
      | .slope => ((q.b0 : Int) + Int.tdiv (((p.target : Int) - q.b0) * (q.k + 1 : Nat)) p.dwell).toNat
      | .accel => if q.b ≤ p.target then min p.target (q.b + q.increment) else max p.target (q.b - q.increment)
    let increment := if p.ramp = .accel then min (q.increment + p.leap) 127 else q.increment
    q.runCount ≤ 65535 → (q.settings.breakpoint = 0 ∨ count ≠ q.settings.breakpoint) →
    (q.k + 1 ≠ p.dwell →
      ∃ t : State, exec .periodBoundary s = .next t ∧
        t.sequencer = { q with k := q.k + 1, runCount := count, b := b, increment := increment } ∧
        t.notices = (if 0 < q.settings.lead ∧ t.sequencer.remaining = q.settings.lead then
          arrive ⟨.scheduleEnding, p.mask, BitVec.ofNat 16 q.settings.lead⟩ s.notices else s.notices) ∧
        (q.k < p.dwell → q.settings.breakpoint = 0 ∨ q.runCount < min q.settings.breakpoint 65535 →
          t.sequencer.remaining + 1 = q.remaining) ∧
        t = { s with sequencer := t.sequencer, notices := t.notices }) ∧
    (q.k + 1 = p.dwell → q.step ≠ q.run.stop ∨ 0 < q.repeatsLeft →
      let i : Fin 24 := if q.step = q.run.stop then q.run.start else q.step + 1
      let n := q.program[i]
      let framed :=
        if n.frame && !q.frame then arrive ⟨.frameEnter, n.mask, BitVec.ofNat 16 i.val⟩ s.notices
        else if !n.frame && q.frame then arrive ⟨.frameLeave, p.mask, BitVec.ofNat 16 q.step.val⟩ s.notices
        else s.notices
      ∃ t : State, exec .periodBoundary s = .next t ∧
        t.sequencer =
          { q with
            step := i
            k := 0
            runCount := count
            repeatsLeft := if q.step = q.run.stop then q.repeatsLeft - 1 else q.repeatsLeft
            b0 := b
            b := if n.ramp = .hold then n.target else b
            increment := if n.ramp = .accel then n.accel else increment
            frame := n.frame } ∧
        t.notices = (if 0 < q.settings.lead ∧ t.sequencer.remaining = q.settings.lead then
          arrive ⟨.scheduleEnding, n.mask, BitVec.ofNat 16 q.settings.lead⟩ framed else framed) ∧
        (q.settings.breakpoint = 0 ∨ q.runCount < min q.settings.breakpoint 65535 →
          t.sequencer.remaining + 1 = q.remaining) ∧
        t = { s with sequencer := t.sequencer, notices := t.notices })

/-- R124 to R127, R129 to R131: the last boundary of a run, or the breakpoint, moves B by the ramp and leads into a
pending start's run, into HOLDING with that B, or into IDLE as completion with SCHEDULE_END; HOLDING counts down and
ends the same way; with the notices of the frame and of the run, in their order (that the figures the rules do not
list stand is the model's reading, assumption 8). -/
def Obligations.RunEndsInHoldingOrIdle : Prop :=
  ∀ s : State, s.rstHeld = false → s.sequencer.timer.isSome = true →
    let q := s.sequencer
    let p := q.program[q.step]
    let count := min (q.runCount + 1) 65535
    let b : Nat :=
      match p.ramp with
      | .hold => p.target
      | .slope => ((q.b0 : Int) + Int.tdiv (((p.target : Int) - q.b0) * (q.k + 1 : Nat)) p.dwell).toNat
      | .accel => if q.b ≤ p.target then min p.target (q.b + q.increment) else max p.target (q.b - q.increment)
    let increment := if p.ramp = .accel then min (q.increment + p.leap) 127 else q.increment
    let left := if q.frame then arrive ⟨.frameLeave, p.mask, BitVec.ofNat 16 q.step.val⟩ s.notices else s.notices
    let idle : State :=
      { s with
        sequencer := { q with
          state := .idle
          b := 0
          k := 0
          runCount := 0
          repeatsLeft := 0
          increment := 0
          holdCount := 0
          frame := false }
        notices := arrive ⟨.scheduleEnd, p.mask, 0⟩ left
        events := { s.events with
          records := s.events.records.set 7 (s.events.records[7].take (eventMask p.mask)) } }
    let entered := fun (r : RunParams) (b increment : Nat) => ({ q with
      state := .running
      run := r
      step := r.start
      b0 := b
      b := if (q.program[r.start]).ramp = .hold then (q.program[r.start]).target else b
      k := 0
      increment := if (q.program[r.start]).ramp = .accel then (q.program[r.start]).accel else increment
      runCount := 0
      repeatsLeft := r.repeats
      pendingStart := none
      frame := (q.program[r.start]).frame } : BackoffSequencer)
    let started := fun (r : RunParams) => arrive ⟨.scheduleStart, (q.program[r.start]).mask,
      BitVec.ofNat 16 (r.start.val * 256 + r.stop.val)⟩
    let ending := fun (u : BackoffSequencer) (queue : List Notice) =>
      if 0 < q.settings.lead ∧ u.remaining = q.settings.lead then
        arrive ⟨.scheduleEnding, (q.program[u.step]).mask, BitVec.ofNat 16 q.settings.lead⟩ queue else queue
    let last := (q.settings.breakpoint ≠ 0 ∧ count = q.settings.breakpoint) ∨
      (q.k + 1 = p.dwell ∧ q.step = q.run.stop ∧ q.repeatsLeft = 0)
    (q.state = .running → q.runCount ≤ 65535 → last →
      (∀ r : RunParams, q.pendingStart = some r →
        let n := q.program[r.start]
        let framed :=
          if n.frame && !q.frame then arrive ⟨.frameEnter, n.mask, BitVec.ofNat 16 r.start.val⟩ s.notices
          else if n.frame then s.notices else left
        exec .periodBoundary s = .next { s with
          sequencer := entered r b increment
          notices := ending (entered r b increment) (started r framed) }) ∧
      (q.pendingStart = none → 0 < q.settings.holdAfter →
        exec .periodBoundary s = .next { s with
          sequencer := { q with
            state := .holding
            b := b
            k := q.k + 1
            runCount := count
            repeatsLeft := 0
            increment := increment
            holdCount := q.settings.holdAfter
            frame := false }
          notices := left }) ∧
      (q.pendingStart = none → q.settings.holdAfter = 0 → exec .periodBoundary s = .next idle)) ∧
    (q.state = .holding →
      (∀ r : RunParams, q.pendingStart = some r → q.frame = false →
        let n := q.program[r.start]
        let framed := if n.frame then
          arrive ⟨.frameEnter, n.mask, BitVec.ofNat 16 r.start.val⟩ (started r s.notices) else started r s.notices
        exec .periodBoundary s = .next { s with
          sequencer := entered r q.b q.increment
          notices := ending (entered r q.b q.increment) framed }) ∧
      (q.pendingStart = none → 1 < q.holdCount →
        exec .periodBoundary s = .next { s with sequencer := { q with holdCount := q.holdCount - 1 } }) ∧
      (q.pendingStart = none → q.holdCount = 1 → exec .periodBoundary s = .next idle))

/-- R125, R132, R133: FREEZE, THAW and ABORT_SCHEDULE, in the states that take them and in those that refuse them
with WRONG_STATE (that THAW and ABORT_SCHEDULE leave the remembered state, and an abort B0 and the run
parameters, is the model's reading, assumption 8). -/
def Obligations.FreezeThawAbort : Prop :=
  ∀ s : State,
    let q := s.sequencer
    let p := q.program[q.step]
    (s.Serving 0x25 → q.state = .running ∨ q.state = .holding →
      ∃ t : State, exec (.freeze []) s = .next t ∧
        t.sequencer = { q with
          state := .frozen
          remembered := some (if q.state = .running then .running else .holding)
          frame := p.frame } ∧
        t.notices = (if p.frame && !q.frame then arrive ⟨.frameEnter, p.mask, BitVec.ofNat 16 q.step.val⟩ s.notices
          else if !p.frame && q.frame then arrive ⟨.frameLeave, p.mask, BitVec.ofNat 16 q.step.val⟩ s.notices
          else s.notices) ∧
        t.policy = ⟨none, ⟨.ok, []⟩, s.policy.address⟩ ∧
        t = { s with sequencer := t.sequencer, notices := t.notices, policy := t.policy }) ∧
    (s.Serving 0x25 → q.state = .idle ∨ q.state = .starting ∨ q.state = .frozen →
      exec (.freeze []) s = .next (s.reply .wrongState [])) ∧
    (∀ r : RememberedState, s.Serving 0x26 → q.state = .frozen → q.remembered = some r →
      let due := p.frame && (r == .running)
      ∃ t : State, exec (.thaw []) s = .next t ∧
        t.sequencer = { q with
          state := if r = .running then .running else .holding
          frame := due } ∧
        t.notices = (if due && !q.frame then arrive ⟨.frameEnter, p.mask, BitVec.ofNat 16 q.step.val⟩ s.notices
          else if !due && q.frame then arrive ⟨.frameLeave, p.mask, BitVec.ofNat 16 q.step.val⟩ s.notices
          else s.notices) ∧
        t.policy = ⟨none, ⟨.ok, []⟩, s.policy.address⟩ ∧
        t = { s with sequencer := t.sequencer, notices := t.notices, policy := t.policy }) ∧
    (s.Serving 0x26 → q.state ≠ .frozen → exec (.thaw []) s = .next (s.reply .wrongState [])) ∧
    (s.Serving 0x24 → q.state ≠ .idle →
      let mask := if q.state = .starting then 0 else p.mask
      ∃ t : State, exec (.abortSchedule []) s = .next t ∧
        t.sequencer = { q with
          state := .idle
          pendingStart := none
          b := 0
          k := 0
          runCount := 0
          repeatsLeft := 0
          increment := 0
          holdCount := 0
          frame := false } ∧
        t.notices = arrive ⟨.scheduleEnd, mask, 1⟩
          (if q.frame then arrive ⟨.frameLeave, p.mask, BitVec.ofNat 16 q.step.val⟩ s.notices else s.notices) ∧
        t.events = { s.events with
          records := s.events.records.set 7 (s.events.records[7].take (eventMask mask)) } ∧
        t.policy = ⟨none, ⟨.ok, []⟩, s.policy.address⟩ ∧
        t = { s with
          sequencer := t.sequencer, notices := t.notices, events := t.events, policy := t.policy }) ∧
    (s.Serving 0x24 → q.state = .idle → exec (.abortSchedule []) s = .next (s.reply .wrongState []))

/-- R118, R119, R121: WRITE_STEP, SET_SEQUENCER and SET_TRIGGER write their entries, adjusted as their rules say;
a step in the range of the active run or of the pending start, and settings outside IDLE, are refused with
WRONG_STATE; operands out of range with RANGE. -/
def Obligations.SequencerTablesAreWritten : Prop :=
  ∀ s : State,
    let q := s.sequencer
    (∀ index target dwell ramp accel leap mask frame : Byte, s.Serving 0x20 →
      let p := [index, target, dwell, ramp, accel, leap, mask, frame]
      (∀ (i : Fin 24) (r : Ramp), index.toNat = i.val →
        (ramp.toNat, r) ∈ [(0, Ramp.hold), (1, Ramp.slope), (2, Ramp.accel)] →
        mask.toNat ≤ 15 → frame.toNat ≤ 1 →
        ((q.state ≠ .idle ∧ q.run.covers i = true) ∨ (∃ x, q.pendingStart = some x ∧ x.covers i = true) →
          exec (.writeStep p) s = .next (s.reply .wrongState [])) ∧
        ((q.state = .idle ∨ q.run.covers i = false) → (∀ x, q.pendingStart = some x → x.covers i = false) →
          exec (.writeStep p) s =
            .next (State.reply
              { s with sequencer := { q with
                program := q.program.set i
                  ⟨min target.toNat 127, if dwell = 0 then 1 else dwell.toNat, r, min accel.toNat 15,
                    min leap.toNat 15, BitVec.ofNat 4 mask.toNat, frame.toNat == 1⟩ } } .ok []))) ∧
      (23 < index.toNat ∨ 2 < ramp.toNat ∨ 15 < mask.toNat ∨ 1 < frame.toNat →
        exec (.writeStep p) s = .next (s.reply .range []))) ∧
    (∀ period b1 b0 hold lead : Byte, s.Serving 0x21 →
      let x : SequencerSettings := ⟨period.toNat, b1.toNat * 256 + b0.toNat, hold.toNat, min lead.toNat 6⟩
      (period = 0 → exec (.setSequencer [period, b1, b0, hold, lead]) s = .next (s.reply .range [])) ∧
      (period ≠ 0 → q.state ≠ .idle →
        exec (.setSequencer [period, b1, b0, hold, lead]) s = .next (s.reply .wrongState [])) ∧
      (period ≠ 0 → q.state = .idle →
        exec (.setSequencer [period, b1, b0, hold, lead]) s =
          .next (State.reply
            { s with sequencer := { q with
              settings := x
              timer := if period.toNat = q.settings.period then q.timer
                else some (period.toNat * 10000) } } .ok []))) ∧
    (∀ kind a b n : Byte, s.Serving 0x22 →
      (∀ (k : Fin 3) (i j : Fin 24), kind.toNat = k.val → a.toNat = i.val → b.toNat = j.val →
        exec (.setTrigger [kind, a, b, n]) s =
          .next (State.reply
            { s with sequencer := { q with triggers := q.triggers.set k ⟨i, j, n.toNat⟩ } } .ok [])) ∧
      (2 < kind.toNat ∨ 23 < a.toNat ∨ 23 < b.toNat →
        exec (.setTrigger [kind, a, b, n]) s = .next (s.reply .range [])))

/-- R136, R166: a presented trigger passes only when enabled in the context, the latch clear and the part READY;
it then sets the latch with its kind and starts its map entry; otherwise nothing changes. The sequencer takes the
start as it takes a START_SCHEDULE (R128): STARTING in IDLE, new run parameters in STARTING, the pending start
elsewhere. -/
def Obligations.TriggerGateLetsOneStartPass : Prop :=
  (∀ (q : BackoffSequencer) (r : RunParams),
    (q.state = .idle → q.takeStart r = { q with state := .starting, run := r }) ∧
    (q.state = .starting → q.takeStart r = { q with run := r }) ∧
    (q.InRun → q.takeStart r = { q with pendingStart := some r })) ∧
  ∀ (s : State) (k : TriggerKind),
    let bit := match k with
      | .overloadCrit => 0
      | .trip => 1
      | .mismatch => 2
    let passes := s.context.current.triggers.getLsbD bit = true ∧ s.events.latch = none ∧
      s.loader.load = .ready
    (passes → s.presentTrigger k =
      { s with
        events := { s.events with latch := some k }
        sequencer := s.sequencer.takeStart s.sequencer.triggers[k.index] }) ∧
    (¬passes → s.presentTrigger k = s) ∧
    ∀ k' : TriggerKind, passes → (s.presentTrigger k).presentTrigger k' = s.presentTrigger k

/-! ### The supply pool -/

/-- R141: a pin that leaves its taken level starts the debounce timer, or is taken at once when D is 0; one that
returns stops the timer; the expiry takes the pin's level, and a level taken re-forms the target
(`State.reformTarget`, whose effect LevelsRiseAtOnceAndFallAfterTheHold states). -/
def Obligations.LinesAreDebounced : Prop :=
  ∀ (s : State) (line : OvlLine) (level : Bool), s.rstHeld = false →
    let m := s.supply.line line
    (m.pin ≠ level → level = m.taken →
      exec (.ovlPinChange line level) s =
        .next { s with supply := s.supply.setLine line ⟨level, m.taken, none⟩ }) ∧
    (m.pin ≠ level → level ≠ m.taken → s.supply.settings.debounce ≠ 0 →
      exec (.ovlPinChange line level) s =
        .next { s with
          supply := s.supply.setLine line ⟨level, m.taken, some (s.supply.settings.debounce * 50)⟩ }) ∧
    (m.pin ≠ level → level ≠ m.taken → s.supply.settings.debounce = 0 →
      exec (.ovlPinChange line level) s =
        .next (State.reformTarget { s with supply := s.supply.setLine line ⟨level, level, none⟩ })) ∧
    (m.debounce.isSome = true →
      exec (.debounceExpiry line) s =
        .next (State.reformTarget { s with supply := s.supply.setLine line ⟨m.pin, m.pin, none⟩ }))

/-- R142, R143, R145, R146, R166: what the re-formed target does: a rise applies at once with its event and, for
CRIT, its trigger, which passes when it is enabled, the latch clear and the part READY; an equal level
cancels the hold, a fall starts the recovery hold, and the hold's expiry applies the target; each change of the
applied level recomputes E, with POOL_CUT when E changed and lies below the pool sum. The last clause says so of every
recomputation of E, `State.recomputeLimit`, with which SET_OVERLOAD, SET_POOL_LIMIT and POP_CONTEXT end. -/
def Obligations.LevelsRiseAtOnceAndFallAfterTheHold : Prop :=
  ∀ s : State,
    let rank := fun x : SupplyLevel => x.code
    let passes := s.context.current.triggers.getLsbD 0 = true ∧ s.events.latch = none ∧ s.loader.load = .ready
    let target := if s.supply.critLine.taken then SupplyLevel.crit
      else if s.supply.warnLine.taken then SupplyLevel.warn else SupplyLevel.nominal
    let limit := fun x : SupplyLevel => match x with
      | .nominal => s.context.current.poolLimit
      | .warn => s.context.current.poolLimit / 2 ^ s.supply.settings.warnShift
      | .crit => min s.supply.settings.critLimit s.context.current.poolLimit
    let told := if limit target ≠ s.supply.limit ∧ limit target < s.grants.poolSum then
      arrive ⟨.poolCut, maskOf fun c => !s.grants.chains[c].opened.isEmpty,
        BitVec.ofNat 16 (limit target / 1024)⟩ s.notices else s.notices
    (rank s.supply.applied < rank target →
      s.reformTarget.supply = { s.supply with applied := target, hold := none, limit := limit target } ∧
      s.reformTarget.notices = told ∧
      (target = .warn → s.reformTarget.events =
          { s.events with records := s.events.records.set 0 (s.events.records[0].take 0) } ∧
        s.reformTarget.sequencer = s.sequencer) ∧
      (target = .crit → s.reformTarget.events.records = s.events.records.set 1 (s.events.records[1].take 0) ∧
        s.reformTarget.events.alertMask = s.events.alertMask ∧
        (passes → s.reformTarget.events.latch = some .overloadCrit ∧
          s.reformTarget.sequencer = s.sequencer.takeStart s.sequencer.triggers[0]) ∧
        (¬passes → s.reformTarget.events.latch = s.events.latch ∧ s.reformTarget.sequencer = s.sequencer)) ∧
      s.reformTarget = { s with
        supply := s.reformTarget.supply, notices := s.reformTarget.notices, events := s.reformTarget.events,
        sequencer := s.reformTarget.sequencer }) ∧
    (rank target = rank s.supply.applied →
      s.reformTarget = { s with supply := { s.supply with hold := none } }) ∧
    (rank target < rank s.supply.applied → s.supply.hold.isSome = true → s.reformTarget = s) ∧
    (rank target < rank s.supply.applied → s.supply.hold = none → s.supply.settings.hold ≠ 0 →
      s.reformTarget =
        { s with supply := { s.supply with hold := some (s.supply.settings.hold * 10000) } }) ∧
    (rank target < rank s.supply.applied → s.supply.hold = none → s.supply.settings.hold = 0 →
      s.reformTarget =
        { s with
          supply := { s.supply with applied := target, hold := none, limit := limit target }
          notices := told }) ∧
    (s.rstHeld = false → s.supply.hold.isSome = true →
      exec .recoveryHoldExpiry s =
        .next { s with
          supply := { s.supply with applied := target, hold := none, limit := limit target }
          notices := told }) ∧
    s.recomputeLimit =
      { s with
        supply := { s.supply with limit := limit s.supply.applied }
        notices := if limit s.supply.applied ≠ s.supply.limit ∧ limit s.supply.applied < s.grants.poolSum then
          arrive ⟨.poolCut, maskOf fun c => !s.grants.chains[c].opened.isEmpty,
            BitVec.ofNat 16 (limit s.supply.applied / 1024)⟩ s.notices else s.notices }

/-! ### Contexts -/

/-- R154: SET_CHAIN writes the four fields of one chain of the current context together; an unknown chain, an
enable byte above 0x01 or a ceiling below the minimum is refused with RANGE. -/
def Obligations.SetChainWritesFourFields : Prop :=
  ∀ (chain enable ceiling minimum w4 w3 w2 w1 w0 : Byte) (s : State), s.Serving 0x40 →
    let p := [chain, enable, ceiling, minimum, w4, w3, w2, w1, w0]
    (∀ c : Chain, chain.toNat = c.val → enable.toNat ≤ 1 → minimum.toNat ≤ ceiling.toNat →
      exec (.setChain p) s =
        .next (State.reply
          { s with context := { s.context with current := { s.context.current with
            chains := s.context.current.chains.set c
              ⟨enable.toNat == 1, ceiling.toNat, minimum.toNat,
                w4.toNat * 2 ^ 32 + w3.toNat * 2 ^ 24 + w2.toNat * 2 ^ 16 + w1.toNat * 2 ^ 8 + w0.toNat⟩ } } }
          .ok [])) ∧
    (3 < chain.toNat ∨ 1 < enable.toNat ∨ ceiling.toNat < minimum.toNat →
      exec (.setChain p) s = .next (s.reply .range []))

/-- R155, R156, R157: SET_POOL_LIMIT writes the limit and E is recomputed; SET_LIFETIME writes the clamped
lifetime and nothing else; SET_TRIGGER_ENABLE writes a mask of at most 0x07 and nothing else, and refuses a
larger one with RANGE; while LOADING the first two are answered NOT_READY. -/
def Obligations.ContextFieldsAreWritten : Prop :=
  (∀ (x2 x1 x0 : Byte) (s : State), s.Serving 0x41 →
    exec (.setPoolLimit [x2, x1, x0]) s =
      .next ((State.recomputeLimit
        { s with context := { s.context with current := { s.context.current with
          poolLimit := x2.toNat * 65536 + x1.toNat * 256 + x0.toNat } } }).reply .ok [])) ∧
  (∀ (x : Byte) (s : State), s.Serving 0x42 →
    exec (.setLifetime [x]) s =
      .next (State.reply
        { s with context := { s.context with current := { s.context.current with
          lifetime := if x.toNat = 0 then 1 else if 32 < x.toNat then 32 else x.toNat } } } .ok [])) ∧
  (∀ (x : Byte) (s : State), s.Serving 0x43 → x.toNat ≤ 7 →
    exec (.setTriggerEnable [x]) s =
      .next (State.reply
        { s with context := { s.context with current := { s.context.current with
          triggers := BitVec.ofNat 3 x.toNat } } } .ok [])) ∧
  (∀ (x : Byte) (s : State), s.Serving 0x43 → 7 < x.toNat →
    exec (.setTriggerEnable [x]) s = .next (s.reply .range [])) ∧
  ∀ (x2 x1 x0 : Byte) (s : State), s.rstHeld = false → s.loader.load = .loading →
    (s.policy.inFlight = some 0x41 → exec (.setPoolLimit [x2, x1, x0]) s = .next (s.reply .notReady [])) ∧
    (s.policy.inFlight = some 0x42 → exec (.setLifetime [x0]) s = .next (s.reply .notReady []))

/-- R158, R159, R160: the context stack. A push puts a copy of the current context on top, up to four; a pop
replaces the whole current context by the top entry and recomputes E; a peek answers the depth and the top
entry's 37 bytes and changes nothing. A push and a pop in turn give the context and the stack back. -/
def Obligations.ContextStackIsLastInFirstOut : Prop :=
  ∀ s : State,
    (s.Serving 0x44 → s.context.stack.length < 4 → exec (.pushContext []) s =
      .next (State.reply
        { s with context := { s.context with stack := s.context.current :: s.context.stack } } .ok [])) ∧
    (s.Serving 0x44 → 4 ≤ s.context.stack.length → exec (.pushContext []) s = .next (s.reply .stackFull [])) ∧
    (s.context.stack = [] →
      (s.Serving 0x45 → exec (.popContext []) s = .next (s.reply .stackEmpty [])) ∧
      (s.Serving 0x46 → exec (.peekContext []) s = .next (s.reply .stackEmpty []))) ∧
    (∀ (top : Context) (rest : List Context), s.context.stack = top :: rest →
      (s.Serving 0x45 → exec (.popContext []) s =
        .next ((State.recomputeLimit { s with context := ⟨top, rest⟩ }).reply .ok [])) ∧
      (s.Serving 0x46 → exec (.peekContext []) s =
        .next (s.reply .ok (toByte s.context.stack.length :: top.bytes)))) ∧
    (∀ t u v : State, s.Serving 0x44 → s.context.stack.length < 4 → exec (.pushContext []) s = .next t →
      exec (.commandByteArrival 0x45) t = .next u → exec (.popContext []) u = .next v → v.context = s.context)

/-! ### Events and notices -/

/-- R164, R165, R167: an event sets its record's flag, ORs its bits in and counts to 255, leaving the other
records; READ_EVENTS changes no record; CLEAR_EVENTS clears the named records, and the latch when its kind is
named; SET_ALERT_MASK writes the mask; a mask above 0x01FF is refused; ALERT_N is asserted exactly while a set
record's kind is enabled. -/
def Obligations.EventRecordsAndAlertLine : Prop :=
  (∀ (s : State) (k : EventKind) (m : BitVec 5),
    (s.raiseEvent k m).events.records[k.index] =
      ⟨true, s.events.records[k.index].mask ||| m,
        if s.events.records[k.index].count < 255 then s.events.records[k.index].count + 1
          else s.events.records[k.index].count⟩ ∧
    (∀ i : Fin 9, i ≠ k.index → (s.raiseEvent k m).events.records[i] = s.events.records[i]) ∧
    (s.raiseEvent k m).events.latch = s.events.latch ∧
    (s.raiseEvent k m).events.alertMask = s.events.alertMask) ∧
  (∀ s : State, s.alertAsserted = true ↔
    ∃ i : Fin 9, s.events.records[i].raised = true ∧ s.events.alertMask.getLsbD i.val = true) ∧
  ∀ s : State,
    (s.Serving 0x50 → exec (.readEvents []) s = .next (s.reply .ok s.events.bytes)) ∧
    ∀ hi lo : Byte,
      let v := hi.toNat * 256 + lo.toNat
      (s.Serving 0x52 → v ≤ 0x1FF →
        exec (.setAlertMask [hi, lo]) s =
          .next (State.reply { s with events := { s.events with alertMask := BitVec.ofNat 9 v } } .ok [])) ∧
      (s.Serving 0x51 → v ≤ 0x1FF →
        ∃ t : State, exec (.clearEvents [hi, lo]) s = .next (State.reply { s with events := t.events } .ok []) ∧
          (∀ i : Fin 9, v.testBit i.val = true → t.events.records[i] = ⟨false, 0, 0⟩) ∧
          (∀ i : Fin 9, v.testBit i.val = false → t.events.records[i] = s.events.records[i]) ∧
          t.events.alertMask = s.events.alertMask ∧
          (∀ k : TriggerKind, s.events.latch = some k →
            t.events.latch = if v.testBit k.event.index.val then none else some k) ∧
          (s.events.latch = none → t.events.latch = none)) ∧
      (0x1FF < v →
        (s.Serving 0x52 → exec (.setAlertMask [hi, lo]) s = .next (s.reply .range [])) ∧
        (s.Serving 0x51 → exec (.clearEvents [hi, lo]) s = .next (s.reply .range [])))

/-- R169, R170: a notice of a kind not held joins at the young end, one of a held kind merges into the entry in
its place; READ_NOTICE removes and returns the oldest, or answers EMPTY and changes nothing; a notice of the
head's kind and a READ_NOTICE meet as the table of R170 says, and one of another kind leaves the head. -/
def Obligations.NoticesCoalesceAndAreReadOldestFirst : Prop :=
  (∀ (n : Notice) (l : List Notice), (∀ x ∈ l, x.kind ≠ n.kind) → arrive n l = l ++ [n]) ∧
  (∀ (n x : Notice) (before after : List Notice), (∀ y ∈ before, y.kind ≠ n.kind) → x.kind = n.kind →
    arrive n (before ++ x :: after) = before ++ ⟨x.kind, x.mask ||| n.mask, n.value⟩ :: after) ∧
  (∀ s : State, s.noteAsserted = true ↔ s.notices ≠ []) ∧
  (∀ s : State, s.rstHeld = false → s.notices = [] →
    exec .readNotice s = .next (s.answerLink 0x03 [0x01, 0, 0, 0, 0])) ∧
  (∀ (s : State) (n : Notice) (rest : List Notice), s.rstHeld = false → s.notices = n :: rest →
    exec .readNotice s = .next (State.answerLink { s with notices := rest } 0x03
      [0x00, toByte n.kind.code, toByte n.mask.toNat, toByte (n.value.toNat / 256),
        toByte (n.value.toNat % 256)])) ∧
  (∀ (head n : Notice) (rest : List Notice), head.kind = n.kind →
    arrive n (head :: rest) = ⟨head.kind, head.mask ||| n.mask, n.value⟩ :: rest) ∧
  (∀ (head n : Notice) (rest : List Notice), head.kind = n.kind → (∀ x ∈ rest, x.kind ≠ head.kind) →
    arrive n rest = rest ++ [n]) ∧
  ∀ (head n : Notice) (rest : List Notice), head.kind ≠ n.kind →
    arrive n (head :: rest) = head :: arrive n rest

/-- R172, R173, R174: what a frame's bytes come to: its kind's message with the fields in the order of 12.4.1,
whatever follows the request part, a bad frame, or a short frame; the controller reads the response part and then
bytes 0x00; R179: a part held in reset answers nothing. READ_LINK_STATUS answers 0x00 and its four figures behind
the header; a bad frame of each kind is answered in its BAD_FRAME form, and a short frame is not answered; nothing
but the response part changes (that a frame goes to the front of the queue, from where the next step takes it, is the
model's choice, assumption 9, and that a frame not answered leaves the response part empty assumption 7). -/
def Obligations.LinkStatusAndBadFrames : Prop :=
  (∀ (chain tag preq d b0 b1 b2 b3 b4 b5 b6 b7 : Byte) (more : List Byte),
    linkFrame ([0x01, 0x0C, chain, tag, preq, d, b0, b1, b2, b3, b4, b5, b6, b7] ++ more) =
      .burstReq chain tag preq d #v[b0, b1, b2, b3, b4, b5, b6, b7]) ∧
  (∀ (chain tag pact dact r : Byte) (more : List Byte),
    linkFrame ([0x02, 0x05, chain, tag, pact, dact, r] ++ more) = .burstClose chain tag pact dact r) ∧
  (∀ more : List Byte, linkFrame (0x03 :: 0x00 :: more) = .readNotice ∧
    linkFrame (0x04 :: 0x00 :: more) = .readLinkStatus ∧ linkFrame (0x05 :: 0x00 :: more) = .linkReset) ∧
  (∀ (kind n : Byte) (more : List Byte),
    (kind, n.toNat) ∉ ([(0x01, 12), (0x02, 5), (0x03, 0), (0x04, 0), (0x05, 0)] : List (Byte × Nat)) →
    linkFrame (kind :: n :: more) = .badFrame kind n) ∧
  (∀ bytes : List Byte, requestIncomplete bytes = true → linkFrame bytes = .shortFrame bytes) ∧
  (∀ bytes : List Byte, requestIncomplete bytes = true ↔ bytes.length < 2 ∨
    (bytes.take 2 = [0x01, 12] ∧ bytes.length < 14) ∨ (bytes.take 2 = [0x02, 5] ∧ bytes.length < 7)) ∧
  (∀ (s : State) (bytes : List Byte), step (s.withLinkFrame bytes) = exec (linkFrame bytes) s) ∧
  (∀ (s : State) (n : Nat), (s.rstHeld = true → s.linkRead n = none) ∧
    (s.rstHeld = false → ∃ bytes : List Byte, s.linkRead n = some bytes ∧ bytes.length = n ∧
      ∀ (i : Nat) (x : Byte), bytes[i]? = some x → x = s.link.response.getD i 0x00)) ∧
  ∀ s : State, s.rstHeld = false →
    let header := fun kind : Byte =>
      [kind, toByte (s.link.epoch.toNat + if s.loader.load = .loading then 16 else 0)]
    let answered := fun (kind : Byte) (answer : List Byte) =>
      { s with link := { s.link with response := header kind ++ answer } }
    let open' := fun c : Chain => s.grants.chains[c].opened.length
    let scheduled : Nat := match s.sequencer.state with
      | .running => s.sequencer.b
      | .frozen => s.sequencer.b
      | .holding => s.sequencer.b
      | .idle => 0
      | .starting => 0
    exec .readLinkStatus s =
      .next (answered 0x04
        [0x00, toByte (open' 0 + 4 * open' 1 + 16 * open' 2 + 64 * open' 3), toByte s.notices.length,
          toByte s.sequencer.state.code, toByte scheduled]) ∧
    (∀ n : Byte, n ≠ 0x0C →
      exec (.badFrame 0x01 n) s = .next (answered 0x01 [0x02, 0, 0, 0, 0, 0, 0, 0, 0, 0x05])) ∧
    (∀ n : Byte, n ≠ 0x05 → exec (.badFrame 0x02 n) s = .next (answered 0x02 [0x04, 0, 0])) ∧
    (∀ kind n : Byte, kind = 0x03 ∨ kind = 0x04 → n ≠ 0 →
      exec (.badFrame kind n) s = .next (answered kind [0xFF, 0, 0, 0, 0])) ∧
    (∀ kind n : Byte, (kind = 0x05 ∧ n ≠ 0) ∨ kind = 0 ∨ 5 < kind.toNat →
      exec (.badFrame kind n) s = .next (answered kind [0xFF])) ∧
    ∀ bytes : List Byte, requestIncomplete bytes = true →
      exec (.shortFrame bytes) s = .next { s with link := { s.link with response := [] } }

/-! ### Laws every step keeps -/

/-- R38, R41: at most two records of different tags in each list, and both sums equal to the sums over the
records present. -/
def Obligations.StepKeepsGrantLaw : Prop :=
  ∀ s t : State, s.GrantLaw → step s = .next t → t.GrantLaw

/-- R9, R14, R59, R60: each window sum equals the sum of its buckets, with the buckets, residues and heat-in
accumulators in their ranges, in a lawful shape. -/
def Obligations.StepKeepsWindowLaw : Prop :=
  ∀ s t : State, s.WindowLaw → step s = .next t → t.WindowLaw

/-- R11, R73, R93: every temperature the part holds lies in −640 to 2400: estimates, board temperature, fallback,
last samples, knees, trips and calibration bases, in force, in flight and retained. -/
def Obligations.StepKeepsTemperatureLaw : Prop :=
  ∀ s t : State, s.TemperatureLaw → step s = .next t → t.TemperatureLaw

/-- R117, R120, R124, R125, R134: the schedule backoff lies within 0 to 127 and is 0 in IDLE and STARTING; the
frame is on exactly while its rule says; the current step lies in the run's range. -/
def Obligations.StepKeepsSequencerLaw : Prop :=
  ∀ s t : State, s.SequencerLaw → step s = .next t → t.SequencerLaw

/-- R153, R154, R158, R159: every context the part holds has its figures in range and each ceiling at or above its
minimum, and the stack holds at most four. -/
def Obligations.StepKeepsContextLaw : Prop :=
  ∀ s t : State, s.ContextLaw → step s = .next t → t.ContextLaw

/-- R142, R143, R145: E is the limit of the applied level, and a recovery hold runs exactly while the target lies
below the applied level. -/
def Obligations.StepKeepsSupplyLaw : Prop :=
  ∀ s t : State, s.SupplyLaw → step s = .next t → t.SupplyLaw

/-- R14, R93, R108, R111, R120, R149, R164, R169: at most one notice of each kind; at most one matcher WRITING, with
its pending entry and the write timer running; no counter passes its maximum: the chains' counters, the event
counts, the run count, the mismatch counts and the invalid runs. -/
def Obligations.StepKeepsNoticeMatcherAndCounterLaws : Prop :=
  (∀ s t : State, s.NoticeLaw → step s = .next t → t.NoticeLaw) ∧
  (∀ s t : State, s.MatcherLaw → step s = .next t → t.MatcherLaw) ∧
  ∀ s t : State, s.CounterLaw → step s = .next t → t.CounterLaw

/-- The state after reset meets every law above. -/
def Obligations.ResetIsLawful : Prop :=
  State.reset.GrantLaw ∧ State.reset.WindowLaw ∧ State.reset.TemperatureLaw ∧ State.reset.SequencerLaw ∧
  State.reset.ContextLaw ∧ State.reset.SupplyLaw ∧ State.reset.NoticeLaw ∧ State.reset.MatcherLaw ∧
  State.reset.CounterLaw

end
end

