-- ==== Sys2Proof/Laws/State.lean ====
section
/-! SUPPORT. One lemma per field per named update of `State`: an update sets its own field and no other. -/

namespace Sys2Proof.Machine

section
variable (s : State) (x : List Instr)

@[simp] theorem State.withPending_pending : (s.withPending x).pending = x := rfl
@[simp] theorem State.withPending_rstHeld : (s.withPending x).rstHeld = s.rstHeld := rfl
@[simp] theorem State.withPending_link : (s.withPending x).link = s.link := rfl
@[simp] theorem State.withPending_engine : (s.withPending x).engine = s.engine := rfl
@[simp] theorem State.withPending_grants : (s.withPending x).grants = s.grants := rfl
@[simp] theorem State.withPending_windows : (s.withPending x).windows = s.windows := rfl
@[simp] theorem State.withPending_thermal : (s.withPending x).thermal = s.thermal := rfl
@[simp] theorem State.withPending_scanner : (s.withPending x).scanner = s.scanner := rfl
@[simp] theorem State.withPending_classifier : (s.withPending x).classifier = s.classifier := rfl
@[simp] theorem State.withPending_sequencer : (s.withPending x).sequencer = s.sequencer := rfl
@[simp] theorem State.withPending_supply : (s.withPending x).supply = s.supply := rfl
@[simp] theorem State.withPending_mismatch : (s.withPending x).mismatch = s.mismatch := rfl
@[simp] theorem State.withPending_context : (s.withPending x).context = s.context := rfl
@[simp] theorem State.withPending_events : (s.withPending x).events = s.events := rfl
@[simp] theorem State.withPending_notices : (s.withPending x).notices = s.notices := rfl
@[simp] theorem State.withPending_policy : (s.withPending x).policy = s.policy := rfl
@[simp] theorem State.withPending_loader : (s.withPending x).loader = s.loader := rfl
@[simp] theorem State.withPending_freeCount : (s.withPending x).freeCount = s.freeCount := rfl

end

section
variable (s : State) (x : Bool)

@[simp] theorem State.withRstHeld_pending : (s.withRstHeld x).pending = s.pending := rfl
@[simp] theorem State.withRstHeld_rstHeld : (s.withRstHeld x).rstHeld = x := rfl
@[simp] theorem State.withRstHeld_link : (s.withRstHeld x).link = s.link := rfl
@[simp] theorem State.withRstHeld_engine : (s.withRstHeld x).engine = s.engine := rfl
@[simp] theorem State.withRstHeld_grants : (s.withRstHeld x).grants = s.grants := rfl
@[simp] theorem State.withRstHeld_windows : (s.withRstHeld x).windows = s.windows := rfl
@[simp] theorem State.withRstHeld_thermal : (s.withRstHeld x).thermal = s.thermal := rfl
@[simp] theorem State.withRstHeld_scanner : (s.withRstHeld x).scanner = s.scanner := rfl
@[simp] theorem State.withRstHeld_classifier : (s.withRstHeld x).classifier = s.classifier := rfl
@[simp] theorem State.withRstHeld_sequencer : (s.withRstHeld x).sequencer = s.sequencer := rfl
@[simp] theorem State.withRstHeld_supply : (s.withRstHeld x).supply = s.supply := rfl
@[simp] theorem State.withRstHeld_mismatch : (s.withRstHeld x).mismatch = s.mismatch := rfl
@[simp] theorem State.withRstHeld_context : (s.withRstHeld x).context = s.context := rfl
@[simp] theorem State.withRstHeld_events : (s.withRstHeld x).events = s.events := rfl
@[simp] theorem State.withRstHeld_notices : (s.withRstHeld x).notices = s.notices := rfl
@[simp] theorem State.withRstHeld_policy : (s.withRstHeld x).policy = s.policy := rfl
@[simp] theorem State.withRstHeld_loader : (s.withRstHeld x).loader = s.loader := rfl
@[simp] theorem State.withRstHeld_freeCount : (s.withRstHeld x).freeCount = s.freeCount := rfl

end

section
variable (s : State) (x : LinkPort)

@[simp] theorem State.withLink_pending : (s.withLink x).pending = s.pending := rfl
@[simp] theorem State.withLink_rstHeld : (s.withLink x).rstHeld = s.rstHeld := rfl
@[simp] theorem State.withLink_link : (s.withLink x).link = x := rfl
@[simp] theorem State.withLink_engine : (s.withLink x).engine = s.engine := rfl
@[simp] theorem State.withLink_grants : (s.withLink x).grants = s.grants := rfl
@[simp] theorem State.withLink_windows : (s.withLink x).windows = s.windows := rfl
@[simp] theorem State.withLink_thermal : (s.withLink x).thermal = s.thermal := rfl
@[simp] theorem State.withLink_scanner : (s.withLink x).scanner = s.scanner := rfl
@[simp] theorem State.withLink_classifier : (s.withLink x).classifier = s.classifier := rfl
@[simp] theorem State.withLink_sequencer : (s.withLink x).sequencer = s.sequencer := rfl
@[simp] theorem State.withLink_supply : (s.withLink x).supply = s.supply := rfl
@[simp] theorem State.withLink_mismatch : (s.withLink x).mismatch = s.mismatch := rfl
@[simp] theorem State.withLink_context : (s.withLink x).context = s.context := rfl
@[simp] theorem State.withLink_events : (s.withLink x).events = s.events := rfl
@[simp] theorem State.withLink_notices : (s.withLink x).notices = s.notices := rfl
@[simp] theorem State.withLink_policy : (s.withLink x).policy = s.policy := rfl
@[simp] theorem State.withLink_loader : (s.withLink x).loader = s.loader := rfl
@[simp] theorem State.withLink_freeCount : (s.withLink x).freeCount = s.freeCount := rfl

end

section
variable (s : State) (x : Vector EngineChain 4)

@[simp] theorem State.withEngine_pending : (s.withEngine x).pending = s.pending := rfl
@[simp] theorem State.withEngine_rstHeld : (s.withEngine x).rstHeld = s.rstHeld := rfl
@[simp] theorem State.withEngine_link : (s.withEngine x).link = s.link := rfl
@[simp] theorem State.withEngine_engine : (s.withEngine x).engine = x := rfl
@[simp] theorem State.withEngine_grants : (s.withEngine x).grants = s.grants := rfl
@[simp] theorem State.withEngine_windows : (s.withEngine x).windows = s.windows := rfl
@[simp] theorem State.withEngine_thermal : (s.withEngine x).thermal = s.thermal := rfl
@[simp] theorem State.withEngine_scanner : (s.withEngine x).scanner = s.scanner := rfl
@[simp] theorem State.withEngine_classifier : (s.withEngine x).classifier = s.classifier := rfl
@[simp] theorem State.withEngine_sequencer : (s.withEngine x).sequencer = s.sequencer := rfl
@[simp] theorem State.withEngine_supply : (s.withEngine x).supply = s.supply := rfl
@[simp] theorem State.withEngine_mismatch : (s.withEngine x).mismatch = s.mismatch := rfl
@[simp] theorem State.withEngine_context : (s.withEngine x).context = s.context := rfl
@[simp] theorem State.withEngine_events : (s.withEngine x).events = s.events := rfl
@[simp] theorem State.withEngine_notices : (s.withEngine x).notices = s.notices := rfl
@[simp] theorem State.withEngine_policy : (s.withEngine x).policy = s.policy := rfl
@[simp] theorem State.withEngine_loader : (s.withEngine x).loader = s.loader := rfl
@[simp] theorem State.withEngine_freeCount : (s.withEngine x).freeCount = s.freeCount := rfl

end

section
variable (s : State) (x : GrantTable)

@[simp] theorem State.withGrants_pending : (s.withGrants x).pending = s.pending := rfl
@[simp] theorem State.withGrants_rstHeld : (s.withGrants x).rstHeld = s.rstHeld := rfl
@[simp] theorem State.withGrants_link : (s.withGrants x).link = s.link := rfl
@[simp] theorem State.withGrants_engine : (s.withGrants x).engine = s.engine := rfl
@[simp] theorem State.withGrants_grants : (s.withGrants x).grants = x := rfl
@[simp] theorem State.withGrants_windows : (s.withGrants x).windows = s.windows := rfl
@[simp] theorem State.withGrants_thermal : (s.withGrants x).thermal = s.thermal := rfl
@[simp] theorem State.withGrants_scanner : (s.withGrants x).scanner = s.scanner := rfl
@[simp] theorem State.withGrants_classifier : (s.withGrants x).classifier = s.classifier := rfl
@[simp] theorem State.withGrants_sequencer : (s.withGrants x).sequencer = s.sequencer := rfl
@[simp] theorem State.withGrants_supply : (s.withGrants x).supply = s.supply := rfl
@[simp] theorem State.withGrants_mismatch : (s.withGrants x).mismatch = s.mismatch := rfl
@[simp] theorem State.withGrants_context : (s.withGrants x).context = s.context := rfl
@[simp] theorem State.withGrants_events : (s.withGrants x).events = s.events := rfl
@[simp] theorem State.withGrants_notices : (s.withGrants x).notices = s.notices := rfl
@[simp] theorem State.withGrants_policy : (s.withGrants x).policy = s.policy := rfl
@[simp] theorem State.withGrants_loader : (s.withGrants x).loader = s.loader := rfl
@[simp] theorem State.withGrants_freeCount : (s.withGrants x).freeCount = s.freeCount := rfl

end

section
variable (s : State) (x : WindowUnit)

@[simp] theorem State.withWindows_pending : (s.withWindows x).pending = s.pending := rfl
@[simp] theorem State.withWindows_rstHeld : (s.withWindows x).rstHeld = s.rstHeld := rfl
@[simp] theorem State.withWindows_link : (s.withWindows x).link = s.link := rfl
@[simp] theorem State.withWindows_engine : (s.withWindows x).engine = s.engine := rfl
@[simp] theorem State.withWindows_grants : (s.withWindows x).grants = s.grants := rfl
@[simp] theorem State.withWindows_windows : (s.withWindows x).windows = x := rfl
@[simp] theorem State.withWindows_thermal : (s.withWindows x).thermal = s.thermal := rfl
@[simp] theorem State.withWindows_scanner : (s.withWindows x).scanner = s.scanner := rfl
@[simp] theorem State.withWindows_classifier : (s.withWindows x).classifier = s.classifier := rfl
@[simp] theorem State.withWindows_sequencer : (s.withWindows x).sequencer = s.sequencer := rfl
@[simp] theorem State.withWindows_supply : (s.withWindows x).supply = s.supply := rfl
@[simp] theorem State.withWindows_mismatch : (s.withWindows x).mismatch = s.mismatch := rfl
@[simp] theorem State.withWindows_context : (s.withWindows x).context = s.context := rfl
@[simp] theorem State.withWindows_events : (s.withWindows x).events = s.events := rfl
@[simp] theorem State.withWindows_notices : (s.withWindows x).notices = s.notices := rfl
@[simp] theorem State.withWindows_policy : (s.withWindows x).policy = s.policy := rfl
@[simp] theorem State.withWindows_loader : (s.withWindows x).loader = s.loader := rfl
@[simp] theorem State.withWindows_freeCount : (s.withWindows x).freeCount = s.freeCount := rfl

end

section
variable (s : State) (x : ThermalEstimator)

@[simp] theorem State.withThermal_pending : (s.withThermal x).pending = s.pending := rfl
@[simp] theorem State.withThermal_rstHeld : (s.withThermal x).rstHeld = s.rstHeld := rfl
@[simp] theorem State.withThermal_link : (s.withThermal x).link = s.link := rfl
@[simp] theorem State.withThermal_engine : (s.withThermal x).engine = s.engine := rfl
@[simp] theorem State.withThermal_grants : (s.withThermal x).grants = s.grants := rfl
@[simp] theorem State.withThermal_windows : (s.withThermal x).windows = s.windows := rfl
@[simp] theorem State.withThermal_thermal : (s.withThermal x).thermal = x := rfl
@[simp] theorem State.withThermal_scanner : (s.withThermal x).scanner = s.scanner := rfl
@[simp] theorem State.withThermal_classifier : (s.withThermal x).classifier = s.classifier := rfl
@[simp] theorem State.withThermal_sequencer : (s.withThermal x).sequencer = s.sequencer := rfl
@[simp] theorem State.withThermal_supply : (s.withThermal x).supply = s.supply := rfl
@[simp] theorem State.withThermal_mismatch : (s.withThermal x).mismatch = s.mismatch := rfl
@[simp] theorem State.withThermal_context : (s.withThermal x).context = s.context := rfl
@[simp] theorem State.withThermal_events : (s.withThermal x).events = s.events := rfl
@[simp] theorem State.withThermal_notices : (s.withThermal x).notices = s.notices := rfl
@[simp] theorem State.withThermal_policy : (s.withThermal x).policy = s.policy := rfl
@[simp] theorem State.withThermal_loader : (s.withThermal x).loader = s.loader := rfl
@[simp] theorem State.withThermal_freeCount : (s.withThermal x).freeCount = s.freeCount := rfl

end

section
variable (s : State) (x : SensorScanner)

@[simp] theorem State.withScanner_pending : (s.withScanner x).pending = s.pending := rfl
@[simp] theorem State.withScanner_rstHeld : (s.withScanner x).rstHeld = s.rstHeld := rfl
@[simp] theorem State.withScanner_link : (s.withScanner x).link = s.link := rfl
@[simp] theorem State.withScanner_engine : (s.withScanner x).engine = s.engine := rfl
@[simp] theorem State.withScanner_grants : (s.withScanner x).grants = s.grants := rfl
@[simp] theorem State.withScanner_windows : (s.withScanner x).windows = s.windows := rfl
@[simp] theorem State.withScanner_thermal : (s.withScanner x).thermal = s.thermal := rfl
@[simp] theorem State.withScanner_scanner : (s.withScanner x).scanner = x := rfl
@[simp] theorem State.withScanner_classifier : (s.withScanner x).classifier = s.classifier := rfl
@[simp] theorem State.withScanner_sequencer : (s.withScanner x).sequencer = s.sequencer := rfl
@[simp] theorem State.withScanner_supply : (s.withScanner x).supply = s.supply := rfl
@[simp] theorem State.withScanner_mismatch : (s.withScanner x).mismatch = s.mismatch := rfl
@[simp] theorem State.withScanner_context : (s.withScanner x).context = s.context := rfl
@[simp] theorem State.withScanner_events : (s.withScanner x).events = s.events := rfl
@[simp] theorem State.withScanner_notices : (s.withScanner x).notices = s.notices := rfl
@[simp] theorem State.withScanner_policy : (s.withScanner x).policy = s.policy := rfl
@[simp] theorem State.withScanner_loader : (s.withScanner x).loader = s.loader := rfl
@[simp] theorem State.withScanner_freeCount : (s.withScanner x).freeCount = s.freeCount := rfl

end

section
variable (s : State) (x : BurstClassifier)

@[simp] theorem State.withClassifier_pending : (s.withClassifier x).pending = s.pending := rfl
@[simp] theorem State.withClassifier_rstHeld : (s.withClassifier x).rstHeld = s.rstHeld := rfl
@[simp] theorem State.withClassifier_link : (s.withClassifier x).link = s.link := rfl
@[simp] theorem State.withClassifier_engine : (s.withClassifier x).engine = s.engine := rfl
@[simp] theorem State.withClassifier_grants : (s.withClassifier x).grants = s.grants := rfl
@[simp] theorem State.withClassifier_windows : (s.withClassifier x).windows = s.windows := rfl
@[simp] theorem State.withClassifier_thermal : (s.withClassifier x).thermal = s.thermal := rfl
@[simp] theorem State.withClassifier_scanner : (s.withClassifier x).scanner = s.scanner := rfl
@[simp] theorem State.withClassifier_classifier : (s.withClassifier x).classifier = x := rfl
@[simp] theorem State.withClassifier_sequencer : (s.withClassifier x).sequencer = s.sequencer := rfl
@[simp] theorem State.withClassifier_supply : (s.withClassifier x).supply = s.supply := rfl
@[simp] theorem State.withClassifier_mismatch : (s.withClassifier x).mismatch = s.mismatch := rfl
@[simp] theorem State.withClassifier_context : (s.withClassifier x).context = s.context := rfl
@[simp] theorem State.withClassifier_events : (s.withClassifier x).events = s.events := rfl
@[simp] theorem State.withClassifier_notices : (s.withClassifier x).notices = s.notices := rfl
@[simp] theorem State.withClassifier_policy : (s.withClassifier x).policy = s.policy := rfl
@[simp] theorem State.withClassifier_loader : (s.withClassifier x).loader = s.loader := rfl
@[simp] theorem State.withClassifier_freeCount : (s.withClassifier x).freeCount = s.freeCount := rfl

end

section
variable (s : State) (x : BackoffSequencer)

@[simp] theorem State.withSequencer_pending : (s.withSequencer x).pending = s.pending := rfl
@[simp] theorem State.withSequencer_rstHeld : (s.withSequencer x).rstHeld = s.rstHeld := rfl
@[simp] theorem State.withSequencer_link : (s.withSequencer x).link = s.link := rfl
@[simp] theorem State.withSequencer_engine : (s.withSequencer x).engine = s.engine := rfl
@[simp] theorem State.withSequencer_grants : (s.withSequencer x).grants = s.grants := rfl
@[simp] theorem State.withSequencer_windows : (s.withSequencer x).windows = s.windows := rfl
@[simp] theorem State.withSequencer_thermal : (s.withSequencer x).thermal = s.thermal := rfl
@[simp] theorem State.withSequencer_scanner : (s.withSequencer x).scanner = s.scanner := rfl
@[simp] theorem State.withSequencer_classifier : (s.withSequencer x).classifier = s.classifier := rfl
@[simp] theorem State.withSequencer_sequencer : (s.withSequencer x).sequencer = x := rfl
@[simp] theorem State.withSequencer_supply : (s.withSequencer x).supply = s.supply := rfl
@[simp] theorem State.withSequencer_mismatch : (s.withSequencer x).mismatch = s.mismatch := rfl
@[simp] theorem State.withSequencer_context : (s.withSequencer x).context = s.context := rfl
@[simp] theorem State.withSequencer_events : (s.withSequencer x).events = s.events := rfl
@[simp] theorem State.withSequencer_notices : (s.withSequencer x).notices = s.notices := rfl
@[simp] theorem State.withSequencer_policy : (s.withSequencer x).policy = s.policy := rfl
@[simp] theorem State.withSequencer_loader : (s.withSequencer x).loader = s.loader := rfl
@[simp] theorem State.withSequencer_freeCount : (s.withSequencer x).freeCount = s.freeCount := rfl

end

section
variable (s : State) (x : SupplyPool)

@[simp] theorem State.withSupply_pending : (s.withSupply x).pending = s.pending := rfl
@[simp] theorem State.withSupply_rstHeld : (s.withSupply x).rstHeld = s.rstHeld := rfl
@[simp] theorem State.withSupply_link : (s.withSupply x).link = s.link := rfl
@[simp] theorem State.withSupply_engine : (s.withSupply x).engine = s.engine := rfl
@[simp] theorem State.withSupply_grants : (s.withSupply x).grants = s.grants := rfl
@[simp] theorem State.withSupply_windows : (s.withSupply x).windows = s.windows := rfl
@[simp] theorem State.withSupply_thermal : (s.withSupply x).thermal = s.thermal := rfl
@[simp] theorem State.withSupply_scanner : (s.withSupply x).scanner = s.scanner := rfl
@[simp] theorem State.withSupply_classifier : (s.withSupply x).classifier = s.classifier := rfl
@[simp] theorem State.withSupply_sequencer : (s.withSupply x).sequencer = s.sequencer := rfl
@[simp] theorem State.withSupply_supply : (s.withSupply x).supply = x := rfl
@[simp] theorem State.withSupply_mismatch : (s.withSupply x).mismatch = s.mismatch := rfl
@[simp] theorem State.withSupply_context : (s.withSupply x).context = s.context := rfl
@[simp] theorem State.withSupply_events : (s.withSupply x).events = s.events := rfl
@[simp] theorem State.withSupply_notices : (s.withSupply x).notices = s.notices := rfl
@[simp] theorem State.withSupply_policy : (s.withSupply x).policy = s.policy := rfl
@[simp] theorem State.withSupply_loader : (s.withSupply x).loader = s.loader := rfl
@[simp] theorem State.withSupply_freeCount : (s.withSupply x).freeCount = s.freeCount := rfl

end

section
variable (s : State) (x : MismatchMonitor)

@[simp] theorem State.withMismatch_pending : (s.withMismatch x).pending = s.pending := rfl
@[simp] theorem State.withMismatch_rstHeld : (s.withMismatch x).rstHeld = s.rstHeld := rfl
@[simp] theorem State.withMismatch_link : (s.withMismatch x).link = s.link := rfl
@[simp] theorem State.withMismatch_engine : (s.withMismatch x).engine = s.engine := rfl
@[simp] theorem State.withMismatch_grants : (s.withMismatch x).grants = s.grants := rfl
@[simp] theorem State.withMismatch_windows : (s.withMismatch x).windows = s.windows := rfl
@[simp] theorem State.withMismatch_thermal : (s.withMismatch x).thermal = s.thermal := rfl
@[simp] theorem State.withMismatch_scanner : (s.withMismatch x).scanner = s.scanner := rfl
@[simp] theorem State.withMismatch_classifier : (s.withMismatch x).classifier = s.classifier := rfl
@[simp] theorem State.withMismatch_sequencer : (s.withMismatch x).sequencer = s.sequencer := rfl
@[simp] theorem State.withMismatch_supply : (s.withMismatch x).supply = s.supply := rfl
@[simp] theorem State.withMismatch_mismatch : (s.withMismatch x).mismatch = x := rfl
@[simp] theorem State.withMismatch_context : (s.withMismatch x).context = s.context := rfl
@[simp] theorem State.withMismatch_events : (s.withMismatch x).events = s.events := rfl
@[simp] theorem State.withMismatch_notices : (s.withMismatch x).notices = s.notices := rfl
@[simp] theorem State.withMismatch_policy : (s.withMismatch x).policy = s.policy := rfl
@[simp] theorem State.withMismatch_loader : (s.withMismatch x).loader = s.loader := rfl
@[simp] theorem State.withMismatch_freeCount : (s.withMismatch x).freeCount = s.freeCount := rfl

end

section
variable (s : State) (x : ContextStore)

@[simp] theorem State.withContext_pending : (s.withContext x).pending = s.pending := rfl
@[simp] theorem State.withContext_rstHeld : (s.withContext x).rstHeld = s.rstHeld := rfl
@[simp] theorem State.withContext_link : (s.withContext x).link = s.link := rfl
@[simp] theorem State.withContext_engine : (s.withContext x).engine = s.engine := rfl
@[simp] theorem State.withContext_grants : (s.withContext x).grants = s.grants := rfl
@[simp] theorem State.withContext_windows : (s.withContext x).windows = s.windows := rfl
@[simp] theorem State.withContext_thermal : (s.withContext x).thermal = s.thermal := rfl
@[simp] theorem State.withContext_scanner : (s.withContext x).scanner = s.scanner := rfl
@[simp] theorem State.withContext_classifier : (s.withContext x).classifier = s.classifier := rfl
@[simp] theorem State.withContext_sequencer : (s.withContext x).sequencer = s.sequencer := rfl
@[simp] theorem State.withContext_supply : (s.withContext x).supply = s.supply := rfl
@[simp] theorem State.withContext_mismatch : (s.withContext x).mismatch = s.mismatch := rfl
@[simp] theorem State.withContext_context : (s.withContext x).context = x := rfl
@[simp] theorem State.withContext_events : (s.withContext x).events = s.events := rfl
@[simp] theorem State.withContext_notices : (s.withContext x).notices = s.notices := rfl
@[simp] theorem State.withContext_policy : (s.withContext x).policy = s.policy := rfl
@[simp] theorem State.withContext_loader : (s.withContext x).loader = s.loader := rfl
@[simp] theorem State.withContext_freeCount : (s.withContext x).freeCount = s.freeCount := rfl

end

section
variable (s : State) (x : EventLatch)

@[simp] theorem State.withEvents_pending : (s.withEvents x).pending = s.pending := rfl
@[simp] theorem State.withEvents_rstHeld : (s.withEvents x).rstHeld = s.rstHeld := rfl
@[simp] theorem State.withEvents_link : (s.withEvents x).link = s.link := rfl
@[simp] theorem State.withEvents_engine : (s.withEvents x).engine = s.engine := rfl
@[simp] theorem State.withEvents_grants : (s.withEvents x).grants = s.grants := rfl
@[simp] theorem State.withEvents_windows : (s.withEvents x).windows = s.windows := rfl
@[simp] theorem State.withEvents_thermal : (s.withEvents x).thermal = s.thermal := rfl
@[simp] theorem State.withEvents_scanner : (s.withEvents x).scanner = s.scanner := rfl
@[simp] theorem State.withEvents_classifier : (s.withEvents x).classifier = s.classifier := rfl
@[simp] theorem State.withEvents_sequencer : (s.withEvents x).sequencer = s.sequencer := rfl
@[simp] theorem State.withEvents_supply : (s.withEvents x).supply = s.supply := rfl
@[simp] theorem State.withEvents_mismatch : (s.withEvents x).mismatch = s.mismatch := rfl
@[simp] theorem State.withEvents_context : (s.withEvents x).context = s.context := rfl
@[simp] theorem State.withEvents_events : (s.withEvents x).events = x := rfl
@[simp] theorem State.withEvents_notices : (s.withEvents x).notices = s.notices := rfl
@[simp] theorem State.withEvents_policy : (s.withEvents x).policy = s.policy := rfl
@[simp] theorem State.withEvents_loader : (s.withEvents x).loader = s.loader := rfl
@[simp] theorem State.withEvents_freeCount : (s.withEvents x).freeCount = s.freeCount := rfl

end

section
variable (s : State) (x : List Notice)

@[simp] theorem State.withNotices_pending : (s.withNotices x).pending = s.pending := rfl
@[simp] theorem State.withNotices_rstHeld : (s.withNotices x).rstHeld = s.rstHeld := rfl
@[simp] theorem State.withNotices_link : (s.withNotices x).link = s.link := rfl
@[simp] theorem State.withNotices_engine : (s.withNotices x).engine = s.engine := rfl
@[simp] theorem State.withNotices_grants : (s.withNotices x).grants = s.grants := rfl
@[simp] theorem State.withNotices_windows : (s.withNotices x).windows = s.windows := rfl
@[simp] theorem State.withNotices_thermal : (s.withNotices x).thermal = s.thermal := rfl
@[simp] theorem State.withNotices_scanner : (s.withNotices x).scanner = s.scanner := rfl
@[simp] theorem State.withNotices_classifier : (s.withNotices x).classifier = s.classifier := rfl
@[simp] theorem State.withNotices_sequencer : (s.withNotices x).sequencer = s.sequencer := rfl
@[simp] theorem State.withNotices_supply : (s.withNotices x).supply = s.supply := rfl
@[simp] theorem State.withNotices_mismatch : (s.withNotices x).mismatch = s.mismatch := rfl
@[simp] theorem State.withNotices_context : (s.withNotices x).context = s.context := rfl
@[simp] theorem State.withNotices_events : (s.withNotices x).events = s.events := rfl
@[simp] theorem State.withNotices_notices : (s.withNotices x).notices = x := rfl
@[simp] theorem State.withNotices_policy : (s.withNotices x).policy = s.policy := rfl
@[simp] theorem State.withNotices_loader : (s.withNotices x).loader = s.loader := rfl
@[simp] theorem State.withNotices_freeCount : (s.withNotices x).freeCount = s.freeCount := rfl

end

section
variable (s : State) (x : PolicyPort)

@[simp] theorem State.withPolicy_pending : (s.withPolicy x).pending = s.pending := rfl
@[simp] theorem State.withPolicy_rstHeld : (s.withPolicy x).rstHeld = s.rstHeld := rfl
@[simp] theorem State.withPolicy_link : (s.withPolicy x).link = s.link := rfl
@[simp] theorem State.withPolicy_engine : (s.withPolicy x).engine = s.engine := rfl
@[simp] theorem State.withPolicy_grants : (s.withPolicy x).grants = s.grants := rfl
@[simp] theorem State.withPolicy_windows : (s.withPolicy x).windows = s.windows := rfl
@[simp] theorem State.withPolicy_thermal : (s.withPolicy x).thermal = s.thermal := rfl
@[simp] theorem State.withPolicy_scanner : (s.withPolicy x).scanner = s.scanner := rfl
@[simp] theorem State.withPolicy_classifier : (s.withPolicy x).classifier = s.classifier := rfl
@[simp] theorem State.withPolicy_sequencer : (s.withPolicy x).sequencer = s.sequencer := rfl
@[simp] theorem State.withPolicy_supply : (s.withPolicy x).supply = s.supply := rfl
@[simp] theorem State.withPolicy_mismatch : (s.withPolicy x).mismatch = s.mismatch := rfl
@[simp] theorem State.withPolicy_context : (s.withPolicy x).context = s.context := rfl
@[simp] theorem State.withPolicy_events : (s.withPolicy x).events = s.events := rfl
@[simp] theorem State.withPolicy_notices : (s.withPolicy x).notices = s.notices := rfl
@[simp] theorem State.withPolicy_policy : (s.withPolicy x).policy = x := rfl
@[simp] theorem State.withPolicy_loader : (s.withPolicy x).loader = s.loader := rfl
@[simp] theorem State.withPolicy_freeCount : (s.withPolicy x).freeCount = s.freeCount := rfl

end

section
variable (s : State) (x : ImageLoader)

@[simp] theorem State.withLoader_pending : (s.withLoader x).pending = s.pending := rfl
@[simp] theorem State.withLoader_rstHeld : (s.withLoader x).rstHeld = s.rstHeld := rfl
@[simp] theorem State.withLoader_link : (s.withLoader x).link = s.link := rfl
@[simp] theorem State.withLoader_engine : (s.withLoader x).engine = s.engine := rfl
@[simp] theorem State.withLoader_grants : (s.withLoader x).grants = s.grants := rfl
@[simp] theorem State.withLoader_windows : (s.withLoader x).windows = s.windows := rfl
@[simp] theorem State.withLoader_thermal : (s.withLoader x).thermal = s.thermal := rfl
@[simp] theorem State.withLoader_scanner : (s.withLoader x).scanner = s.scanner := rfl
@[simp] theorem State.withLoader_classifier : (s.withLoader x).classifier = s.classifier := rfl
@[simp] theorem State.withLoader_sequencer : (s.withLoader x).sequencer = s.sequencer := rfl
@[simp] theorem State.withLoader_supply : (s.withLoader x).supply = s.supply := rfl
@[simp] theorem State.withLoader_mismatch : (s.withLoader x).mismatch = s.mismatch := rfl
@[simp] theorem State.withLoader_context : (s.withLoader x).context = s.context := rfl
@[simp] theorem State.withLoader_events : (s.withLoader x).events = s.events := rfl
@[simp] theorem State.withLoader_notices : (s.withLoader x).notices = s.notices := rfl
@[simp] theorem State.withLoader_policy : (s.withLoader x).policy = s.policy := rfl
@[simp] theorem State.withLoader_loader : (s.withLoader x).loader = x := rfl
@[simp] theorem State.withLoader_freeCount : (s.withLoader x).freeCount = s.freeCount := rfl

end

section
variable (s : State) (x : Nat)

@[simp] theorem State.withFreeCount_pending : (s.withFreeCount x).pending = s.pending := rfl
@[simp] theorem State.withFreeCount_rstHeld : (s.withFreeCount x).rstHeld = s.rstHeld := rfl
@[simp] theorem State.withFreeCount_link : (s.withFreeCount x).link = s.link := rfl
@[simp] theorem State.withFreeCount_engine : (s.withFreeCount x).engine = s.engine := rfl
@[simp] theorem State.withFreeCount_grants : (s.withFreeCount x).grants = s.grants := rfl
@[simp] theorem State.withFreeCount_windows : (s.withFreeCount x).windows = s.windows := rfl
@[simp] theorem State.withFreeCount_thermal : (s.withFreeCount x).thermal = s.thermal := rfl
@[simp] theorem State.withFreeCount_scanner : (s.withFreeCount x).scanner = s.scanner := rfl
@[simp] theorem State.withFreeCount_classifier : (s.withFreeCount x).classifier = s.classifier := rfl
@[simp] theorem State.withFreeCount_sequencer : (s.withFreeCount x).sequencer = s.sequencer := rfl
@[simp] theorem State.withFreeCount_supply : (s.withFreeCount x).supply = s.supply := rfl
@[simp] theorem State.withFreeCount_mismatch : (s.withFreeCount x).mismatch = s.mismatch := rfl
@[simp] theorem State.withFreeCount_context : (s.withFreeCount x).context = s.context := rfl
@[simp] theorem State.withFreeCount_events : (s.withFreeCount x).events = s.events := rfl
@[simp] theorem State.withFreeCount_notices : (s.withFreeCount x).notices = s.notices := rfl
@[simp] theorem State.withFreeCount_policy : (s.withFreeCount x).policy = s.policy := rfl
@[simp] theorem State.withFreeCount_loader : (s.withFreeCount x).loader = s.loader := rfl
@[simp] theorem State.withFreeCount_freeCount : (s.withFreeCount x).freeCount = x := rfl

end

end Sys2Proof.Machine
end

