-- ==== Sys2Proof/Laws/Ops.lean ====
section
/-! SUPPORT. What each shared operation can do, and what it leaves unchanged. -/

namespace Sys2Proof.Machine

open Sys2Proof

@[simp] theorem State.answerLink_frame (s : State) (kind : Byte) (answer : List Byte) :
    (s.answerLink kind answer).pending = s.pending ∧ (s.answerLink kind answer).rstHeld = s.rstHeld ∧
    (s.answerLink kind answer).engine = s.engine ∧ (s.answerLink kind answer).grants = s.grants ∧
    (s.answerLink kind answer).windows = s.windows ∧ (s.answerLink kind answer).thermal = s.thermal ∧
    (s.answerLink kind answer).scanner = s.scanner ∧ (s.answerLink kind answer).classifier = s.classifier ∧
    (s.answerLink kind answer).sequencer = s.sequencer ∧ (s.answerLink kind answer).supply = s.supply ∧
    (s.answerLink kind answer).mismatch = s.mismatch ∧ (s.answerLink kind answer).context = s.context ∧
    (s.answerLink kind answer).events = s.events ∧ (s.answerLink kind answer).notices = s.notices ∧
    (s.answerLink kind answer).policy = s.policy ∧ (s.answerLink kind answer).loader = s.loader ∧
    (s.answerLink kind answer).freeCount = s.freeCount := by simp [State.answerLink]

@[simp] theorem State.reply_frame (s : State) (status : Status) (data : List Byte) :
    (s.reply status data).pending = s.pending ∧ (s.reply status data).rstHeld = s.rstHeld ∧
    (s.reply status data).link = s.link ∧ (s.reply status data).engine = s.engine ∧
    (s.reply status data).grants = s.grants ∧ (s.reply status data).windows = s.windows ∧
    (s.reply status data).thermal = s.thermal ∧ (s.reply status data).scanner = s.scanner ∧
    (s.reply status data).classifier = s.classifier ∧ (s.reply status data).sequencer = s.sequencer ∧
    (s.reply status data).supply = s.supply ∧ (s.reply status data).mismatch = s.mismatch ∧
    (s.reply status data).context = s.context ∧ (s.reply status data).events = s.events ∧
    (s.reply status data).notices = s.notices ∧ (s.reply status data).loader = s.loader ∧
    (s.reply status data).freeCount = s.freeCount := by simp [State.reply]

@[simp] theorem State.raiseEvent_frame (s : State) (kind : EventKind) (m : BitVec 5) :
    (s.raiseEvent kind m).pending = s.pending ∧ (s.raiseEvent kind m).rstHeld = s.rstHeld ∧
    (s.raiseEvent kind m).link = s.link ∧ (s.raiseEvent kind m).engine = s.engine ∧
    (s.raiseEvent kind m).grants = s.grants ∧ (s.raiseEvent kind m).windows = s.windows ∧
    (s.raiseEvent kind m).thermal = s.thermal ∧ (s.raiseEvent kind m).scanner = s.scanner ∧
    (s.raiseEvent kind m).classifier = s.classifier ∧ (s.raiseEvent kind m).sequencer = s.sequencer ∧
    (s.raiseEvent kind m).supply = s.supply ∧ (s.raiseEvent kind m).mismatch = s.mismatch ∧
    (s.raiseEvent kind m).context = s.context ∧ (s.raiseEvent kind m).notices = s.notices ∧
    (s.raiseEvent kind m).policy = s.policy ∧ (s.raiseEvent kind m).loader = s.loader ∧
    (s.raiseEvent kind m).freeCount = s.freeCount := by simp [State.raiseEvent]

@[simp] theorem State.queueNotice_frame (s : State) (kind : NoticeKind) (m : BitVec 4) (v : Nat) :
    (s.queueNotice kind m v).pending = s.pending ∧ (s.queueNotice kind m v).rstHeld = s.rstHeld ∧
    (s.queueNotice kind m v).link = s.link ∧ (s.queueNotice kind m v).engine = s.engine ∧
    (s.queueNotice kind m v).grants = s.grants ∧ (s.queueNotice kind m v).windows = s.windows ∧
    (s.queueNotice kind m v).thermal = s.thermal ∧ (s.queueNotice kind m v).scanner = s.scanner ∧
    (s.queueNotice kind m v).classifier = s.classifier ∧ (s.queueNotice kind m v).sequencer = s.sequencer ∧
    (s.queueNotice kind m v).supply = s.supply ∧ (s.queueNotice kind m v).mismatch = s.mismatch ∧
    (s.queueNotice kind m v).context = s.context ∧ (s.queueNotice kind m v).events = s.events ∧
    (s.queueNotice kind m v).policy = s.policy ∧ (s.queueNotice kind m v).loader = s.loader ∧
    (s.queueNotice kind m v).freeCount = s.freeCount := by simp [State.queueNotice]

@[simp] theorem State.presentTrigger_frame (s : State) (t : TriggerKind) :
    (s.presentTrigger t).pending = s.pending ∧ (s.presentTrigger t).rstHeld = s.rstHeld ∧
    (s.presentTrigger t).link = s.link ∧ (s.presentTrigger t).engine = s.engine ∧
    (s.presentTrigger t).grants = s.grants ∧ (s.presentTrigger t).windows = s.windows ∧
    (s.presentTrigger t).thermal = s.thermal ∧ (s.presentTrigger t).scanner = s.scanner ∧
    (s.presentTrigger t).classifier = s.classifier ∧ (s.presentTrigger t).supply = s.supply ∧
    (s.presentTrigger t).mismatch = s.mismatch ∧ (s.presentTrigger t).context = s.context ∧
    (s.presentTrigger t).notices = s.notices ∧ (s.presentTrigger t).policy = s.policy ∧
    (s.presentTrigger t).loader = s.loader ∧ (s.presentTrigger t).freeCount = s.freeCount := by
  unfold State.presentTrigger; split <;> simp

@[simp] theorem State.charge_frame (s : State) (c : Chain) (p d : Nat) :
    (s.charge c p d).pending = s.pending ∧ (s.charge c p d).rstHeld = s.rstHeld ∧
    (s.charge c p d).link = s.link ∧ (s.charge c p d).engine = s.engine ∧
    (s.charge c p d).grants = s.grants ∧ (s.charge c p d).thermal = s.thermal ∧
    (s.charge c p d).scanner = s.scanner ∧ (s.charge c p d).classifier = s.classifier ∧
    (s.charge c p d).sequencer = s.sequencer ∧ (s.charge c p d).supply = s.supply ∧
    (s.charge c p d).mismatch = s.mismatch ∧ (s.charge c p d).context = s.context ∧
    (s.charge c p d).events = s.events ∧ (s.charge c p d).notices = s.notices ∧
    (s.charge c p d).policy = s.policy ∧ (s.charge c p d).loader = s.loader ∧
    (s.charge c p d).freeCount = s.freeCount := by simp [State.charge]

@[simp] theorem State.openGrant_frame (s : State) (c : Chain) (r : OpenGrant) :
    (s.openGrant c r).pending = s.pending ∧ (s.openGrant c r).rstHeld = s.rstHeld ∧
    (s.openGrant c r).link = s.link ∧ (s.openGrant c r).engine = s.engine ∧
    (s.openGrant c r).windows = s.windows ∧ (s.openGrant c r).thermal = s.thermal ∧
    (s.openGrant c r).scanner = s.scanner ∧ (s.openGrant c r).classifier = s.classifier ∧
    (s.openGrant c r).sequencer = s.sequencer ∧ (s.openGrant c r).supply = s.supply ∧
    (s.openGrant c r).mismatch = s.mismatch ∧ (s.openGrant c r).context = s.context ∧
    (s.openGrant c r).events = s.events ∧ (s.openGrant c r).notices = s.notices ∧
    (s.openGrant c r).policy = s.policy ∧ (s.openGrant c r).loader = s.loader ∧
    (s.openGrant c r).freeCount = s.freeCount := by simp [State.openGrant]

@[simp] theorem State.removeGrant_frame (s : State) (c : Chain) (r : OpenGrant) :
    (s.removeGrant c r).pending = s.pending ∧ (s.removeGrant c r).rstHeld = s.rstHeld ∧
    (s.removeGrant c r).link = s.link ∧ (s.removeGrant c r).engine = s.engine ∧
    (s.removeGrant c r).windows = s.windows ∧ (s.removeGrant c r).thermal = s.thermal ∧
    (s.removeGrant c r).scanner = s.scanner ∧ (s.removeGrant c r).classifier = s.classifier ∧
    (s.removeGrant c r).sequencer = s.sequencer ∧ (s.removeGrant c r).supply = s.supply ∧
    (s.removeGrant c r).mismatch = s.mismatch ∧ (s.removeGrant c r).context = s.context ∧
    (s.removeGrant c r).events = s.events ∧ (s.removeGrant c r).notices = s.notices ∧
    (s.removeGrant c r).policy = s.policy ∧ (s.removeGrant c r).loader = s.loader ∧
    (s.removeGrant c r).freeCount = s.freeCount := by simp [State.removeGrant]

@[simp] theorem State.lapseGrant_frame (s : State) (c : Chain) (r : OpenGrant) :
    (s.lapseGrant c r).pending = s.pending ∧ (s.lapseGrant c r).rstHeld = s.rstHeld ∧
    (s.lapseGrant c r).link = s.link ∧ (s.lapseGrant c r).engine = s.engine ∧
    (s.lapseGrant c r).thermal = s.thermal ∧ (s.lapseGrant c r).scanner = s.scanner ∧
    (s.lapseGrant c r).classifier = s.classifier ∧ (s.lapseGrant c r).sequencer = s.sequencer ∧
    (s.lapseGrant c r).supply = s.supply ∧ (s.lapseGrant c r).mismatch = s.mismatch ∧
    (s.lapseGrant c r).context = s.context ∧ (s.lapseGrant c r).notices = s.notices ∧
    (s.lapseGrant c r).policy = s.policy ∧ (s.lapseGrant c r).loader = s.loader ∧
    (s.lapseGrant c r).freeCount = s.freeCount := by simp [State.lapseGrant]

/-- Raising an event for each of some chains changes the Event Latch alone. -/
@[simp] theorem State.raiseTrips_frame (s : State) (l : List Chain) :
    (l.foldl (fun t c => t.raiseEvent .trip (eventMask (chainBit c))) s).pending = s.pending ∧ (l.foldl (fun t c => t.raiseEvent .trip (eventMask (chainBit c))) s).rstHeld = s.rstHeld ∧
    (l.foldl (fun t c => t.raiseEvent .trip (eventMask (chainBit c))) s).link = s.link ∧ (l.foldl (fun t c => t.raiseEvent .trip (eventMask (chainBit c))) s).engine = s.engine ∧
    (l.foldl (fun t c => t.raiseEvent .trip (eventMask (chainBit c))) s).grants = s.grants ∧ (l.foldl (fun t c => t.raiseEvent .trip (eventMask (chainBit c))) s).windows = s.windows ∧
    (l.foldl (fun t c => t.raiseEvent .trip (eventMask (chainBit c))) s).thermal = s.thermal ∧ (l.foldl (fun t c => t.raiseEvent .trip (eventMask (chainBit c))) s).scanner = s.scanner ∧
    (l.foldl (fun t c => t.raiseEvent .trip (eventMask (chainBit c))) s).classifier = s.classifier ∧ (l.foldl (fun t c => t.raiseEvent .trip (eventMask (chainBit c))) s).sequencer = s.sequencer ∧
    (l.foldl (fun t c => t.raiseEvent .trip (eventMask (chainBit c))) s).supply = s.supply ∧ (l.foldl (fun t c => t.raiseEvent .trip (eventMask (chainBit c))) s).mismatch = s.mismatch ∧
    (l.foldl (fun t c => t.raiseEvent .trip (eventMask (chainBit c))) s).context = s.context ∧ (l.foldl (fun t c => t.raiseEvent .trip (eventMask (chainBit c))) s).notices = s.notices ∧
    (l.foldl (fun t c => t.raiseEvent .trip (eventMask (chainBit c))) s).policy = s.policy ∧ (l.foldl (fun t c => t.raiseEvent .trip (eventMask (chainBit c))) s).loader = s.loader ∧
    (l.foldl (fun t c => t.raiseEvent .trip (eventMask (chainBit c))) s).freeCount = s.freeCount := by
  induction l generalizing s with
  | nil => simp
  | cons c l ih => simpa using ih (s.raiseEvent .trip (eventMask (chainBit c)))

/-- Presenting a trigger several times changes the trigger latch and the sequencer alone. -/
@[simp] theorem State.presentTrips_frame (s : State) (l : List Chain) :
    (l.foldl (fun t _ => t.presentTrigger .trip) s).pending = s.pending ∧ (l.foldl (fun t _ => t.presentTrigger .trip) s).rstHeld = s.rstHeld ∧
    (l.foldl (fun t _ => t.presentTrigger .trip) s).link = s.link ∧ (l.foldl (fun t _ => t.presentTrigger .trip) s).engine = s.engine ∧
    (l.foldl (fun t _ => t.presentTrigger .trip) s).grants = s.grants ∧ (l.foldl (fun t _ => t.presentTrigger .trip) s).windows = s.windows ∧
    (l.foldl (fun t _ => t.presentTrigger .trip) s).thermal = s.thermal ∧ (l.foldl (fun t _ => t.presentTrigger .trip) s).scanner = s.scanner ∧
    (l.foldl (fun t _ => t.presentTrigger .trip) s).classifier = s.classifier ∧ (l.foldl (fun t _ => t.presentTrigger .trip) s).supply = s.supply ∧
    (l.foldl (fun t _ => t.presentTrigger .trip) s).mismatch = s.mismatch ∧ (l.foldl (fun t _ => t.presentTrigger .trip) s).context = s.context ∧
    (l.foldl (fun t _ => t.presentTrigger .trip) s).notices = s.notices ∧ (l.foldl (fun t _ => t.presentTrigger .trip) s).policy = s.policy ∧
    (l.foldl (fun t _ => t.presentTrigger .trip) s).loader = s.loader ∧ (l.foldl (fun t _ => t.presentTrigger .trip) s).freeCount = s.freeCount := by
  induction l generalizing s with
  | nil => simp
  | cons c l ih => simpa using ih (s.presentTrigger .trip)

@[simp] theorem State.announceTrips_frame (s : State) (before : ThermalEstimator) :
    (s.announceTrips before).pending = s.pending ∧ (s.announceTrips before).rstHeld = s.rstHeld ∧
    (s.announceTrips before).link = s.link ∧ (s.announceTrips before).engine = s.engine ∧
    (s.announceTrips before).grants = s.grants ∧ (s.announceTrips before).windows = s.windows ∧
    (s.announceTrips before).thermal = s.thermal ∧ (s.announceTrips before).scanner = s.scanner ∧
    (s.announceTrips before).classifier = s.classifier ∧ (s.announceTrips before).supply = s.supply ∧
    (s.announceTrips before).mismatch = s.mismatch ∧ (s.announceTrips before).context = s.context ∧
    (s.announceTrips before).policy = s.policy ∧ (s.announceTrips before).loader = s.loader ∧
    (s.announceTrips before).freeCount = s.freeCount := by
  unfold State.announceTrips; dsimp only; split <;> simp

@[simp] theorem State.changeThermal_frame (s : State) (after : ThermalEstimator) :
    (s.changeThermal after).pending = s.pending ∧ (s.changeThermal after).rstHeld = s.rstHeld ∧
    (s.changeThermal after).link = s.link ∧ (s.changeThermal after).engine = s.engine ∧
    (s.changeThermal after).grants = s.grants ∧ (s.changeThermal after).windows = s.windows ∧
    (s.changeThermal after).scanner = s.scanner ∧ (s.changeThermal after).classifier = s.classifier ∧
    (s.changeThermal after).supply = s.supply ∧ (s.changeThermal after).mismatch = s.mismatch ∧
    (s.changeThermal after).context = s.context ∧ (s.changeThermal after).policy = s.policy ∧
    (s.changeThermal after).loader = s.loader ∧ (s.changeThermal after).freeCount = s.freeCount := by simp [State.changeThermal]

/-- Announcing leaves the thermal records themselves, so they are the ones given. -/
@[simp] theorem State.changeThermal_thermal (s : State) (after : ThermalEstimator) :
    (s.changeThermal after).thermal = after := by simp [State.changeThermal]

@[simp] theorem State.recomputeLimit_frame (s : State) :
    (s.recomputeLimit).pending = s.pending ∧ (s.recomputeLimit).rstHeld = s.rstHeld ∧
    (s.recomputeLimit).link = s.link ∧ (s.recomputeLimit).engine = s.engine ∧
    (s.recomputeLimit).grants = s.grants ∧ (s.recomputeLimit).windows = s.windows ∧
    (s.recomputeLimit).thermal = s.thermal ∧ (s.recomputeLimit).scanner = s.scanner ∧
    (s.recomputeLimit).classifier = s.classifier ∧ (s.recomputeLimit).sequencer = s.sequencer ∧
    (s.recomputeLimit).mismatch = s.mismatch ∧ (s.recomputeLimit).context = s.context ∧
    (s.recomputeLimit).events = s.events ∧ (s.recomputeLimit).policy = s.policy ∧
    (s.recomputeLimit).loader = s.loader ∧ (s.recomputeLimit).freeCount = s.freeCount := by
  unfold State.recomputeLimit; dsimp only; split <;> simp

@[simp] theorem State.announceLevel_frame (s : State) (level : SupplyLevel) :
    (s.announceLevel level).pending = s.pending ∧ (s.announceLevel level).rstHeld = s.rstHeld ∧
    (s.announceLevel level).link = s.link ∧ (s.announceLevel level).engine = s.engine ∧
    (s.announceLevel level).grants = s.grants ∧ (s.announceLevel level).windows = s.windows ∧
    (s.announceLevel level).thermal = s.thermal ∧ (s.announceLevel level).scanner = s.scanner ∧
    (s.announceLevel level).classifier = s.classifier ∧ (s.announceLevel level).supply = s.supply ∧
    (s.announceLevel level).mismatch = s.mismatch ∧ (s.announceLevel level).context = s.context ∧
    (s.announceLevel level).notices = s.notices ∧ (s.announceLevel level).policy = s.policy ∧
    (s.announceLevel level).loader = s.loader ∧ (s.announceLevel level).freeCount = s.freeCount := by
  cases level <;> simp [State.announceLevel]

@[simp] theorem State.applyLevel_frame (s : State) (level : SupplyLevel) :
    (s.applyLevel level).pending = s.pending ∧ (s.applyLevel level).rstHeld = s.rstHeld ∧
    (s.applyLevel level).link = s.link ∧ (s.applyLevel level).engine = s.engine ∧
    (s.applyLevel level).grants = s.grants ∧ (s.applyLevel level).windows = s.windows ∧
    (s.applyLevel level).thermal = s.thermal ∧ (s.applyLevel level).scanner = s.scanner ∧
    (s.applyLevel level).classifier = s.classifier ∧ (s.applyLevel level).sequencer = s.sequencer ∧
    (s.applyLevel level).mismatch = s.mismatch ∧ (s.applyLevel level).context = s.context ∧
    (s.applyLevel level).events = s.events ∧ (s.applyLevel level).notices = s.notices ∧
    (s.applyLevel level).policy = s.policy ∧ (s.applyLevel level).loader = s.loader ∧
    (s.applyLevel level).freeCount = s.freeCount := by simp [State.applyLevel]

@[simp] theorem State.reformTarget_frame (s : State) :
    (s.reformTarget).pending = s.pending ∧ (s.reformTarget).rstHeld = s.rstHeld ∧
    (s.reformTarget).link = s.link ∧ (s.reformTarget).engine = s.engine ∧
    (s.reformTarget).grants = s.grants ∧ (s.reformTarget).windows = s.windows ∧
    (s.reformTarget).thermal = s.thermal ∧ (s.reformTarget).scanner = s.scanner ∧
    (s.reformTarget).classifier = s.classifier ∧ (s.reformTarget).mismatch = s.mismatch ∧
    (s.reformTarget).context = s.context ∧ (s.reformTarget).policy = s.policy ∧
    (s.reformTarget).loader = s.loader ∧ (s.reformTarget).freeCount = s.freeCount := by
  unfold State.reformTarget; dsimp only; repeat' split
  all_goals simp

/-! ### What each shared operation does -/

/-- While RST_N is held asserted nothing happens. -/
theorem State.unlessHeld_held {s : State} (h : s.rstHeld = true) (f : State → State) :
    s.unlessHeld f = s := by simp [State.unlessHeld, h]

/-- With RST_N released the part acts. -/
theorem State.unlessHeld_running {s : State} (h : s.rstHeld = false) (f : State → State) :
    s.unlessHeld f = f s := by simp [State.unlessHeld, h]

/-- At the end of the write that is in flight its command acts. -/
theorem State.atWriteEnd_taken {s : State} {command : Byte} (h : s.rstHeld = false)
    (hm : s.policy.inFlight = some command) (f : State → State) : s.atWriteEnd command f = f s := by
  simp [State.atWriteEnd, State.unlessHeld, h, hm]

/-- The end of a write whose command byte is not in flight takes nothing. -/
theorem State.atWriteEnd_other {s : State} {command : Byte} (hm : s.policy.inFlight ≠ some command)
    (f : State → State) : s.atWriteEnd command f = s := by
  simp [State.atWriteEnd, State.unlessHeld, hm]

/-- What the end of a write can do: its command, or nothing. -/
theorem State.atWriteEnd_cases (s : State) (command : Byte) (f : State → State) :
    (s.rstHeld = false ∧ s.policy.inFlight = some command ∧ s.atWriteEnd command f = f s) ∨
      s.atWriteEnd command f = s := by
  by_cases hm : s.policy.inFlight = some command
  · cases h : s.rstHeld
    · exact .inl ⟨rfl, hm, State.atWriteEnd_taken h hm f⟩
    · exact .inr (State.unlessHeld_held h _)
  · exact .inr (State.atWriteEnd_other hm f)

/-- A response is the header, then the answer. -/
@[simp] theorem State.answerLink_link (s : State) (kind : Byte) (answer : List Byte) :
    (s.answerLink kind answer).link = ⟨s.link.epoch, s.linkHeader kind ++ answer⟩ := rfl

/-- A reply clears the marker and replaces the buffer. -/
@[simp] theorem State.reply_policy (s : State) (status : Status) (data : List Byte) :
    (s.reply status data).policy = ⟨none, ⟨status, data⟩, s.policy.address⟩ := rfl

/-- The three ways a command of the table is taken (R176, orders 2 to 4). -/
theorem State.takeCommand_cases (s : State) (n : Nat) (payload : List Byte)
    (block : State → BlockAnswer) :
    s.takeCommand n payload block =
      if s.isLoading then s.reply .notReady []
      else if payload.length ≠ n then s.reply .badLength []
      else (block s).state.reply (block s).status (block s).data := rfl

/-- A command of the right length, in READY, is its block's answer. -/
theorem State.takeCommand_ready {s : State} (h : s.isLoading = false) {n : Nat} {payload : List Byte}
    (hl : payload.length = n) (block : State → BlockAnswer) :
    s.takeCommand n payload block = (block s).state.reply (block s).status (block s).data := by
  simp [State.takeCommand, h, hl]

/-- The record of the raised kind takes the event, the others stand, and so do mask and latch. -/
theorem State.raiseEvent_events (s : State) (kind : EventKind) (m : BitVec 5) :
    (s.raiseEvent kind m).events =
      { s.events with
        records := s.events.records.set kind.index ((s.events.records[kind.index]).take m) } := rfl

/-- A queued notice arrives at the queue. -/
@[simp] theorem State.queueNotice_notices (s : State) (kind : NoticeKind) (m : BitVec 4) (v : Nat) :
    (s.queueNotice kind m v).notices = arrive ⟨kind, m, BitVec.ofNat 16 v⟩ s.notices := rfl

/-- The kinds held after an arrival: the same, or the same and the new one at the young end. -/
theorem arrive_kinds (n : Notice) (l : List Notice) :
    (arrive n l).map (·.kind) =
      if n.kind ∈ l.map (·.kind) then l.map (·.kind) else l.map (·.kind) ++ [n.kind] := by
  induction l with
  | nil => simp [arrive]
  | cons h t ih =>
    by_cases hk : h.kind = n.kind
    · simp [arrive, hk]
    · have hk' : n.kind ≠ h.kind := fun e => hk e.symm
      simp only [arrive, if_neg hk, List.map_cons, ih, List.mem_cons, hk', false_or]
      split <;> simp

/-- An arrival keeps at most one notice of each kind (R169). -/
theorem arrive_nodup (n : Notice) {l : List Notice} (h : (l.map (·.kind)).Nodup) :
    ((arrive n l).map (·.kind)).Nodup := by
  rw [arrive_kinds]
  split
  · exact h
  · rename_i hn
    exact List.nodup_append.2 ⟨h, by simp, by
      intro a ha b hb e
      rw [List.mem_singleton] at hb
      exact hn (hb ▸ e ▸ ha)⟩

/-- A presented trigger passes with the latch set and the start taken, or starts nothing (R166). -/
theorem State.presentTrigger_cases (s : State) (t : TriggerKind) :
    (s.triggerPasses t = true ∧ s.presentTrigger t =
      (s.withEvents { s.events with latch := some t }).withSequencer
        (s.sequencer.takeStart s.sequencer.triggers[t.index])) ∨
    (s.triggerPasses t = false ∧ s.presentTrigger t = s) := by
  unfold State.presentTrigger
  cases h : s.triggerPasses t <;> simp

/-- A presented trigger leaves every event record and the alert mask. -/
@[simp] theorem State.presentTrigger_records (s : State) (t : TriggerKind) :
    (s.presentTrigger t).events.records = s.events.records ∧
    (s.presentTrigger t).events.alertMask = s.events.alertMask := by
  unfold State.presentTrigger; split <;> simp

/-- Taking a start changes the state, the run parameters or the pending start, and nothing else. -/
@[simp] theorem BackoffSequencer.takeStart_frame (q : BackoffSequencer) (r : RunParams) :
    (q.takeStart r).program = q.program ∧ (q.takeStart r).settings = q.settings ∧
    (q.takeStart r).triggers = q.triggers ∧ (q.takeStart r).remembered = q.remembered ∧
    (q.takeStart r).step = q.step ∧ (q.takeStart r).b = q.b ∧ (q.takeStart r).b0 = q.b0 ∧
    (q.takeStart r).k = q.k ∧ (q.takeStart r).runCount = q.runCount ∧
    (q.takeStart r).repeatsLeft = q.repeatsLeft ∧ (q.takeStart r).increment = q.increment ∧
    (q.takeStart r).holdCount = q.holdCount ∧ (q.takeStart r).frame = q.frame ∧
    (q.takeStart r).timer = q.timer := by
  unfold BackoffSequencer.takeStart; split <;> simp

/-- A charge on a chain acts on that chain's account alone (R61). -/
theorem State.charge_windows (s : State) (c : Chain) (p d : Nat) :
    (s.charge c p d).windows =
      { s.windows with
        chains := s.windows.chains.set c ((s.windows.chains[c]).charge s.windows.current p d) } := rfl

/-- What a charge makes of an account: nothing but the residue for 0 eu; otherwise the current bucket
takes the amount, the sum follows the bucket, and the heat-in takes the whole (R8, R61, R63). -/
theorem WindowChain.charge_cases (w : WindowChain) (i p d : Nat) :
    (w.chargeSum p d / 64 = 0 ∧ w.charge i p d = { w with residue := w.chargeSum p d % 64 }) ∨
    (w.chargeSum p d / 64 ≠ 0 ∧ w.charge i p d =
      { ring := w.ring.set i ((w.ring.getD i ⟨0, false⟩).add (w.chargeSum p d / 64))
        sum := w.sum + (((w.ring.getD i ⟨0, false⟩).add (w.chargeSum p d / 64)).energy
          - (w.ring.getD i ⟨0, false⟩).energy)
        residue := w.chargeSum p d % 64
        heatIn := min (w.heatIn + w.chargeSum p d / 64) max32 }) := by
  by_cases h : w.chargeSum p d / 64 = 0
  · exact .inl ⟨h, by simp [WindowChain.charge, h]⟩
  · exact .inr ⟨h, by simp [WindowChain.charge, h]⟩

/-- The Grant Table after a grant opens (R40). -/
theorem State.openGrant_grants (s : State) (c : Chain) (r : OpenGrant) :
    (s.openGrant c r).grants =
      ⟨s.grants.chains.set c ((s.grants.chains[c]).enlist r), s.grants.poolSum + r.power⟩ := rfl

/-- The Grant Table after a record leaves its list (R41). -/
@[simp] theorem State.removeGrant_grants (s : State) (c : Chain) (r : OpenGrant) :
    (s.removeGrant c r).grants =
      ⟨s.grants.chains.set c ((s.grants.chains[c]).release r), s.grants.poolSum - r.power⟩ := rfl

/-- A recomputation sets E and no other figure of the monitor (R145). -/
@[simp] theorem State.recomputeLimit_supply (s : State) :
    s.recomputeLimit.supply =
      { s.supply with
        limit := effectiveLimit s.supply.applied s.context.current.poolLimit s.supply.settings } := by
  unfold State.recomputeLimit; dsimp only; split <;> simp

/-- A recomputation queues POOL_CUT when E has changed and lies below the pool sum, else nothing (R146). -/
theorem State.recomputeLimit_notices (s : State) :
    s.recomputeLimit.notices =
      if effectiveLimit s.supply.applied s.context.current.poolLimit s.supply.settings ≠ s.supply.limit ∧
          effectiveLimit s.supply.applied s.context.current.poolLimit s.supply.settings < s.grants.poolSum
      then arrive ⟨.poolCut, s.grants.openMask, BitVec.ofNat 16
          (effectiveLimit s.supply.applied s.context.current.poolLimit s.supply.settings / 1024)⟩ s.notices
      else s.notices := by
  unfold State.recomputeLimit; dsimp only; split <;> simp

/-- The four ways a re-formed target acts (R142, R143). -/
theorem State.reformTarget_cases (s : State) :
    (s.supply.applied.code < s.supply.target.code ∧
      s.reformTarget = ((s.applyLevel s.supply.target).announceLevel s.supply.target).recomputeLimit) ∨
    (s.supply.target.code = s.supply.applied.code ∧
      s.reformTarget = s.withSupply { s.supply with hold := none }) ∨
    (s.supply.target.code < s.supply.applied.code ∧ s.supply.hold.isSome ∧ s.reformTarget = s) ∨
    (s.supply.target.code < s.supply.applied.code ∧ s.supply.hold = none ∧
      s.supply.settings.hold = 0 ∧ s.reformTarget = (s.applyLevel s.supply.target).recomputeLimit) ∨
    (s.supply.target.code < s.supply.applied.code ∧ s.supply.hold = none ∧
      s.supply.settings.hold ≠ 0 ∧ s.reformTarget =
        s.withSupply { s.supply with hold := some s.supply.settings.holdMicros }) := by
  unfold State.reformTarget
  rcases Nat.lt_trichotomy s.supply.applied.code s.supply.target.code with h | h | h
  · exact .inl ⟨h, by simp [h]⟩
  · exact .inr (.inl ⟨h.symm, by simp [h]⟩)
  · have h1 : ¬ s.supply.applied.code < s.supply.target.code := by omega
    have h2 : ¬ s.supply.target.code = s.supply.applied.code := by omega
    right; right
    cases hh : s.supply.hold with
    | some t => exact .inl ⟨h, by simp, by simp [h1, h2]⟩
    | none =>
      by_cases h0 : s.supply.settings.hold = 0
      · exact .inr (.inl ⟨h, rfl, h0, by simp [h1, h2, h0]⟩)
      · exact .inr (.inr ⟨h, rfl, h0, by simp [h1, h2, h0]⟩)

end Sys2Proof.Machine
end

