-- ==== Sys2Proof/Laws/Families.lean ====
section
/-! SUPPORT. What the operations of the blocks leave unchanged. -/

namespace Sys2Proof.Machine

open Sys2Proof

@[simp] theorem State.setEngine_frame (s : State) (c : Chain) (e : EngineChain) :
    (s.setEngine c e).pending = s.pending ∧ (s.setEngine c e).rstHeld = s.rstHeld ∧
    (s.setEngine c e).link = s.link ∧ (s.setEngine c e).grants = s.grants ∧
    (s.setEngine c e).windows = s.windows ∧ (s.setEngine c e).thermal = s.thermal ∧
    (s.setEngine c e).scanner = s.scanner ∧ (s.setEngine c e).classifier = s.classifier ∧
    (s.setEngine c e).sequencer = s.sequencer ∧ (s.setEngine c e).supply = s.supply ∧
    (s.setEngine c e).mismatch = s.mismatch ∧ (s.setEngine c e).context = s.context ∧
    (s.setEngine c e).events = s.events ∧ (s.setEngine c e).notices = s.notices ∧
    (s.setEngine c e).policy = s.policy ∧ (s.setEngine c e).loader = s.loader ∧
    (s.setEngine c e).freeCount = s.freeCount := by simp [State.setEngine]

@[simp] theorem State.withhold_frame (s : State) (c : Chain) (chain tag : Byte) (reason : WithheldReason) (factor : Factor) (cls : Nat) :
    ((s.withhold c chain tag reason factor cls).state).pending = s.pending ∧ ((s.withhold c chain tag reason factor cls).state).rstHeld = s.rstHeld ∧
    ((s.withhold c chain tag reason factor cls).state).link = s.link ∧ ((s.withhold c chain tag reason factor cls).state).grants = s.grants ∧
    ((s.withhold c chain tag reason factor cls).state).windows = s.windows ∧ ((s.withhold c chain tag reason factor cls).state).thermal = s.thermal ∧
    ((s.withhold c chain tag reason factor cls).state).scanner = s.scanner ∧ ((s.withhold c chain tag reason factor cls).state).classifier = s.classifier ∧
    ((s.withhold c chain tag reason factor cls).state).sequencer = s.sequencer ∧ ((s.withhold c chain tag reason factor cls).state).supply = s.supply ∧
    ((s.withhold c chain tag reason factor cls).state).mismatch = s.mismatch ∧ ((s.withhold c chain tag reason factor cls).state).context = s.context ∧
    ((s.withhold c chain tag reason factor cls).state).events = s.events ∧ ((s.withhold c chain tag reason factor cls).state).notices = s.notices ∧
    ((s.withhold c chain tag reason factor cls).state).policy = s.policy ∧ ((s.withhold c chain tag reason factor cls).state).loader = s.loader ∧
    ((s.withhold c chain tag reason factor cls).state).freeCount = s.freeCount := by simp [State.withhold]

@[simp] theorem State.issueOrWithhold_frame (s : State) (c : Chain) (chain tag : Byte) (preq d cls : Nat) (factor : Factor) (g : Option Nat) :
    ((s.issueOrWithhold c chain tag preq d cls factor g).state).pending = s.pending ∧ ((s.issueOrWithhold c chain tag preq d cls factor g).state).rstHeld = s.rstHeld ∧
    ((s.issueOrWithhold c chain tag preq d cls factor g).state).link = s.link ∧ ((s.issueOrWithhold c chain tag preq d cls factor g).state).windows = s.windows ∧
    ((s.issueOrWithhold c chain tag preq d cls factor g).state).thermal = s.thermal ∧ ((s.issueOrWithhold c chain tag preq d cls factor g).state).scanner = s.scanner ∧
    ((s.issueOrWithhold c chain tag preq d cls factor g).state).classifier = s.classifier ∧ ((s.issueOrWithhold c chain tag preq d cls factor g).state).sequencer = s.sequencer ∧
    ((s.issueOrWithhold c chain tag preq d cls factor g).state).supply = s.supply ∧ ((s.issueOrWithhold c chain tag preq d cls factor g).state).mismatch = s.mismatch ∧
    ((s.issueOrWithhold c chain tag preq d cls factor g).state).context = s.context ∧ ((s.issueOrWithhold c chain tag preq d cls factor g).state).events = s.events ∧
    ((s.issueOrWithhold c chain tag preq d cls factor g).state).notices = s.notices ∧ ((s.issueOrWithhold c chain tag preq d cls factor g).state).policy = s.policy ∧
    ((s.issueOrWithhold c chain tag preq d cls factor g).state).loader = s.loader ∧ ((s.issueOrWithhold c chain tag preq d cls factor g).state).freeCount = s.freeCount := by
  unfold State.issueOrWithhold; split
  · simp
  · split <;> simp

@[simp] theorem State.decision_frame (s : State) (c : Chain) (chain tag : Byte) (preq d : Nat) (cls : Fin 8) (k : ClassEntry) :
    ((s.decision c chain tag preq d cls k).state).pending = s.pending ∧ ((s.decision c chain tag preq d cls k).state).rstHeld = s.rstHeld ∧
    ((s.decision c chain tag preq d cls k).state).link = s.link ∧ ((s.decision c chain tag preq d cls k).state).windows = s.windows ∧
    ((s.decision c chain tag preq d cls k).state).thermal = s.thermal ∧ ((s.decision c chain tag preq d cls k).state).scanner = s.scanner ∧
    ((s.decision c chain tag preq d cls k).state).classifier = s.classifier ∧ ((s.decision c chain tag preq d cls k).state).sequencer = s.sequencer ∧
    ((s.decision c chain tag preq d cls k).state).supply = s.supply ∧ ((s.decision c chain tag preq d cls k).state).mismatch = s.mismatch ∧
    ((s.decision c chain tag preq d cls k).state).context = s.context ∧ ((s.decision c chain tag preq d cls k).state).events = s.events ∧
    ((s.decision c chain tag preq d cls k).state).notices = s.notices ∧ ((s.decision c chain tag preq d cls k).state).policy = s.policy ∧
    ((s.decision c chain tag preq d cls k).state).loader = s.loader ∧ ((s.decision c chain tag preq d cls k).state).freeCount = s.freeCount := by
  unfold State.decision; dsimp only; repeat' split
  all_goals simp

@[simp] theorem State.takeRequest_frame (s : State) (chain tag : Byte) (preq d : Nat) (desc : Descriptor) :
    ((s.takeRequest chain tag preq d desc).state).pending = s.pending ∧ ((s.takeRequest chain tag preq d desc).state).rstHeld = s.rstHeld ∧
    ((s.takeRequest chain tag preq d desc).state).link = s.link ∧ ((s.takeRequest chain tag preq d desc).state).windows = s.windows ∧
    ((s.takeRequest chain tag preq d desc).state).thermal = s.thermal ∧ ((s.takeRequest chain tag preq d desc).state).scanner = s.scanner ∧
    ((s.takeRequest chain tag preq d desc).state).classifier = s.classifier ∧ ((s.takeRequest chain tag preq d desc).state).sequencer = s.sequencer ∧
    ((s.takeRequest chain tag preq d desc).state).supply = s.supply ∧ ((s.takeRequest chain tag preq d desc).state).mismatch = s.mismatch ∧
    ((s.takeRequest chain tag preq d desc).state).context = s.context ∧ ((s.takeRequest chain tag preq d desc).state).events = s.events ∧
    ((s.takeRequest chain tag preq d desc).state).notices = s.notices ∧ ((s.takeRequest chain tag preq d desc).state).policy = s.policy ∧
    ((s.takeRequest chain tag preq d desc).state).loader = s.loader ∧ ((s.takeRequest chain tag preq d desc).state).freeCount = s.freeCount := by
  unfold State.takeRequest; repeat' split
  all_goals simp

@[simp] theorem State.zeroCounters_frame (s : State) (c : Chain) :
    (s.zeroCounters c).pending = s.pending ∧ (s.zeroCounters c).rstHeld = s.rstHeld ∧
    (s.zeroCounters c).link = s.link ∧ (s.zeroCounters c).windows = s.windows ∧
    (s.zeroCounters c).thermal = s.thermal ∧ (s.zeroCounters c).scanner = s.scanner ∧
    (s.zeroCounters c).classifier = s.classifier ∧ (s.zeroCounters c).sequencer = s.sequencer ∧
    (s.zeroCounters c).supply = s.supply ∧ (s.zeroCounters c).mismatch = s.mismatch ∧
    (s.zeroCounters c).context = s.context ∧ (s.zeroCounters c).events = s.events ∧
    (s.zeroCounters c).notices = s.notices ∧ (s.zeroCounters c).policy = s.policy ∧
    (s.zeroCounters c).loader = s.loader ∧ (s.zeroCounters c).freeCount = s.freeCount := by simp [State.zeroCounters]

@[simp] theorem State.setMismatch_frame (s : State) (c : Chain) (m : MismatchChain) :
    (s.setMismatch c m).pending = s.pending ∧ (s.setMismatch c m).rstHeld = s.rstHeld ∧
    (s.setMismatch c m).link = s.link ∧ (s.setMismatch c m).engine = s.engine ∧
    (s.setMismatch c m).grants = s.grants ∧ (s.setMismatch c m).windows = s.windows ∧
    (s.setMismatch c m).thermal = s.thermal ∧ (s.setMismatch c m).scanner = s.scanner ∧
    (s.setMismatch c m).classifier = s.classifier ∧ (s.setMismatch c m).sequencer = s.sequencer ∧
    (s.setMismatch c m).supply = s.supply ∧ (s.setMismatch c m).context = s.context ∧
    (s.setMismatch c m).events = s.events ∧ (s.setMismatch c m).notices = s.notices ∧
    (s.setMismatch c m).policy = s.policy ∧ (s.setMismatch c m).loader = s.loader ∧
    (s.setMismatch c m).freeCount = s.freeCount := by simp [State.setMismatch]

@[simp] theorem State.enterMismatch_frame (s : State) (c : Chain) :
    (s.enterMismatch c).pending = s.pending ∧ (s.enterMismatch c).rstHeld = s.rstHeld ∧
    (s.enterMismatch c).link = s.link ∧ (s.enterMismatch c).engine = s.engine ∧
    (s.enterMismatch c).grants = s.grants ∧ (s.enterMismatch c).windows = s.windows ∧
    (s.enterMismatch c).thermal = s.thermal ∧ (s.enterMismatch c).scanner = s.scanner ∧
    (s.enterMismatch c).classifier = s.classifier ∧ (s.enterMismatch c).supply = s.supply ∧
    (s.enterMismatch c).context = s.context ∧ (s.enterMismatch c).policy = s.policy ∧
    (s.enterMismatch c).loader = s.loader ∧ (s.enterMismatch c).freeCount = s.freeCount := by simp [State.enterMismatch]

@[simp] theorem State.leaveMismatch_frame (s : State) (c : Chain) :
    (s.leaveMismatch c).pending = s.pending ∧ (s.leaveMismatch c).rstHeld = s.rstHeld ∧
    (s.leaveMismatch c).link = s.link ∧ (s.leaveMismatch c).engine = s.engine ∧
    (s.leaveMismatch c).grants = s.grants ∧ (s.leaveMismatch c).windows = s.windows ∧
    (s.leaveMismatch c).thermal = s.thermal ∧ (s.leaveMismatch c).scanner = s.scanner ∧
    (s.leaveMismatch c).classifier = s.classifier ∧ (s.leaveMismatch c).sequencer = s.sequencer ∧
    (s.leaveMismatch c).supply = s.supply ∧ (s.leaveMismatch c).context = s.context ∧
    (s.leaveMismatch c).events = s.events ∧ (s.leaveMismatch c).policy = s.policy ∧
    (s.leaveMismatch c).loader = s.loader ∧ (s.leaveMismatch c).freeCount = s.freeCount := by simp [State.leaveMismatch]

@[simp] theorem State.reflectCode_frame (s : State) (c : Chain) (r : Nat) :
    (s.reflectCode c r).pending = s.pending ∧ (s.reflectCode c r).rstHeld = s.rstHeld ∧
    (s.reflectCode c r).link = s.link ∧ (s.reflectCode c r).engine = s.engine ∧
    (s.reflectCode c r).grants = s.grants ∧ (s.reflectCode c r).windows = s.windows ∧
    (s.reflectCode c r).thermal = s.thermal ∧ (s.reflectCode c r).scanner = s.scanner ∧
    (s.reflectCode c r).classifier = s.classifier ∧ (s.reflectCode c r).supply = s.supply ∧
    (s.reflectCode c r).context = s.context ∧ (s.reflectCode c r).policy = s.policy ∧
    (s.reflectCode c r).loader = s.loader ∧ (s.reflectCode c r).freeCount = s.freeCount := by
  unfold State.reflectCode; dsimp only; repeat' split
  all_goals simp

@[simp] theorem State.closeRecord_frame (s : State) (c : Chain) (g : OpenGrant) (pact dact r : Nat) :
    (s.closeRecord c g pact dact r).pending = s.pending ∧ (s.closeRecord c g pact dact r).rstHeld = s.rstHeld ∧
    (s.closeRecord c g pact dact r).link = s.link ∧ (s.closeRecord c g pact dact r).engine = s.engine ∧
    (s.closeRecord c g pact dact r).thermal = s.thermal ∧ (s.closeRecord c g pact dact r).scanner = s.scanner ∧
    (s.closeRecord c g pact dact r).classifier = s.classifier ∧ (s.closeRecord c g pact dact r).supply = s.supply ∧
    (s.closeRecord c g pact dact r).context = s.context ∧ (s.closeRecord c g pact dact r).policy = s.policy ∧
    (s.closeRecord c g pact dact r).loader = s.loader ∧ (s.closeRecord c g pact dact r).freeCount = s.freeCount := by
  unfold State.closeRecord; dsimp only; repeat' split
  all_goals simp

@[simp] theorem State.lateClose_frame (s : State) (c : Chain) :
    (s.lateClose c).pending = s.pending ∧ (s.lateClose c).rstHeld = s.rstHeld ∧
    (s.lateClose c).link = s.link ∧ (s.lateClose c).engine = s.engine ∧
    (s.lateClose c).windows = s.windows ∧ (s.lateClose c).thermal = s.thermal ∧
    (s.lateClose c).scanner = s.scanner ∧ (s.lateClose c).classifier = s.classifier ∧
    (s.lateClose c).sequencer = s.sequencer ∧ (s.lateClose c).supply = s.supply ∧
    (s.lateClose c).mismatch = s.mismatch ∧ (s.lateClose c).context = s.context ∧
    (s.lateClose c).events = s.events ∧ (s.lateClose c).notices = s.notices ∧
    (s.lateClose c).policy = s.policy ∧ (s.lateClose c).loader = s.loader ∧
    (s.lateClose c).freeCount = s.freeCount := by simp [State.lateClose]

@[simp] theorem State.closeOn_frame (s : State) (c : Chain) (tag : Byte) (pact dact r : Nat) :
    ((s.closeOn c tag pact dact r).state).pending = s.pending ∧ ((s.closeOn c tag pact dact r).state).rstHeld = s.rstHeld ∧
    ((s.closeOn c tag pact dact r).state).link = s.link ∧ ((s.closeOn c tag pact dact r).state).engine = s.engine ∧
    ((s.closeOn c tag pact dact r).state).thermal = s.thermal ∧ ((s.closeOn c tag pact dact r).state).scanner = s.scanner ∧
    ((s.closeOn c tag pact dact r).state).classifier = s.classifier ∧ ((s.closeOn c tag pact dact r).state).supply = s.supply ∧
    ((s.closeOn c tag pact dact r).state).context = s.context ∧ ((s.closeOn c tag pact dact r).state).policy = s.policy ∧
    ((s.closeOn c tag pact dact r).state).loader = s.loader ∧ ((s.closeOn c tag pact dact r).state).freeCount = s.freeCount := by
  unfold State.closeOn; repeat' split
  all_goals simp

@[simp] theorem State.takeLapse_frame (s : State) (c : Chain) (tag : Byte) :
    (s.takeLapse c tag).pending = s.pending ∧ (s.takeLapse c tag).rstHeld = s.rstHeld ∧
    (s.takeLapse c tag).link = s.link ∧ (s.takeLapse c tag).engine = s.engine ∧
    (s.takeLapse c tag).thermal = s.thermal ∧ (s.takeLapse c tag).scanner = s.scanner ∧
    (s.takeLapse c tag).classifier = s.classifier ∧ (s.takeLapse c tag).sequencer = s.sequencer ∧
    (s.takeLapse c tag).supply = s.supply ∧ (s.takeLapse c tag).mismatch = s.mismatch ∧
    (s.takeLapse c tag).context = s.context ∧ (s.takeLapse c tag).notices = s.notices ∧
    (s.takeLapse c tag).policy = s.policy ∧ (s.takeLapse c tag).loader = s.loader ∧
    (s.takeLapse c tag).freeCount = s.freeCount := by
  unfold State.takeLapse; split <;> simp

/-- Charging a list of records changes the Energy Window Unit alone. -/
@[simp] theorem State.chargeList_frame (s : State) (c : Chain) (l : List OpenGrant) :
    (l.foldl (fun t g => t.charge c g.code g.duration) s).pending = s.pending ∧ (l.foldl (fun t g => t.charge c g.code g.duration) s).rstHeld = s.rstHeld ∧
    (l.foldl (fun t g => t.charge c g.code g.duration) s).link = s.link ∧ (l.foldl (fun t g => t.charge c g.code g.duration) s).engine = s.engine ∧
    (l.foldl (fun t g => t.charge c g.code g.duration) s).grants = s.grants ∧ (l.foldl (fun t g => t.charge c g.code g.duration) s).thermal = s.thermal ∧
    (l.foldl (fun t g => t.charge c g.code g.duration) s).scanner = s.scanner ∧ (l.foldl (fun t g => t.charge c g.code g.duration) s).classifier = s.classifier ∧
    (l.foldl (fun t g => t.charge c g.code g.duration) s).sequencer = s.sequencer ∧ (l.foldl (fun t g => t.charge c g.code g.duration) s).supply = s.supply ∧
    (l.foldl (fun t g => t.charge c g.code g.duration) s).mismatch = s.mismatch ∧ (l.foldl (fun t g => t.charge c g.code g.duration) s).context = s.context ∧
    (l.foldl (fun t g => t.charge c g.code g.duration) s).events = s.events ∧ (l.foldl (fun t g => t.charge c g.code g.duration) s).notices = s.notices ∧
    (l.foldl (fun t g => t.charge c g.code g.duration) s).policy = s.policy ∧ (l.foldl (fun t g => t.charge c g.code g.duration) s).loader = s.loader ∧
    (l.foldl (fun t g => t.charge c g.code g.duration) s).freeCount = s.freeCount := by
  induction l generalizing s with
  | nil => simp
  | cons g l ih => simpa using ih (s.charge c g.code g.duration)

@[simp] theorem State.chargeOpen_frame (s : State) (c : Chain) :
    (s.chargeOpen c).pending = s.pending ∧ (s.chargeOpen c).rstHeld = s.rstHeld ∧
    (s.chargeOpen c).link = s.link ∧ (s.chargeOpen c).engine = s.engine ∧
    (s.chargeOpen c).grants = s.grants ∧ (s.chargeOpen c).thermal = s.thermal ∧
    (s.chargeOpen c).scanner = s.scanner ∧ (s.chargeOpen c).classifier = s.classifier ∧
    (s.chargeOpen c).sequencer = s.sequencer ∧ (s.chargeOpen c).supply = s.supply ∧
    (s.chargeOpen c).mismatch = s.mismatch ∧ (s.chargeOpen c).context = s.context ∧
    (s.chargeOpen c).events = s.events ∧ (s.chargeOpen c).notices = s.notices ∧
    (s.chargeOpen c).policy = s.policy ∧ (s.chargeOpen c).loader = s.loader ∧
    (s.chargeOpen c).freeCount = s.freeCount := by
  unfold State.chargeOpen; exact State.chargeList_frame s c _

@[simp] theorem State.linkReset_frame (s : State) :
    (s.linkReset).pending = s.pending ∧ (s.linkReset).rstHeld = s.rstHeld ∧
    (s.linkReset).link = s.link ∧ (s.linkReset).engine = s.engine ∧
    (s.linkReset).thermal = s.thermal ∧ (s.linkReset).scanner = s.scanner ∧
    (s.linkReset).classifier = s.classifier ∧ (s.linkReset).sequencer = s.sequencer ∧
    (s.linkReset).supply = s.supply ∧ (s.linkReset).mismatch = s.mismatch ∧
    (s.linkReset).context = s.context ∧ (s.linkReset).events = s.events ∧
    (s.linkReset).policy = s.policy ∧ (s.linkReset).loader = s.loader ∧
    (s.linkReset).freeCount = s.freeCount := by
  simp [State.linkReset, allChains]

@[simp] theorem State.takeModelStep_frame (s : State) :
    (s.takeModelStep).pending = s.pending ∧ (s.takeModelStep).rstHeld = s.rstHeld ∧
    (s.takeModelStep).link = s.link ∧ (s.takeModelStep).engine = s.engine ∧
    (s.takeModelStep).grants = s.grants ∧ (s.takeModelStep).scanner = s.scanner ∧
    (s.takeModelStep).classifier = s.classifier ∧ (s.takeModelStep).supply = s.supply ∧
    (s.takeModelStep).mismatch = s.mismatch ∧ (s.takeModelStep).context = s.context ∧
    (s.takeModelStep).policy = s.policy ∧ (s.takeModelStep).loader = s.loader ∧
    (s.takeModelStep).freeCount = s.freeCount := by simp [State.takeModelStep]

@[simp] theorem State.completeConversion_frame (s : State) (v : Conversion) (raw : BitVec 12) :
    (s.completeConversion v raw).pending = s.pending ∧ (s.completeConversion v raw).rstHeld = s.rstHeld ∧
    (s.completeConversion v raw).link = s.link ∧ (s.completeConversion v raw).engine = s.engine ∧
    (s.completeConversion v raw).grants = s.grants ∧ (s.completeConversion v raw).windows = s.windows ∧
    (s.completeConversion v raw).thermal = s.thermal ∧ (s.completeConversion v raw).classifier = s.classifier ∧
    (s.completeConversion v raw).sequencer = s.sequencer ∧ (s.completeConversion v raw).supply = s.supply ∧
    (s.completeConversion v raw).mismatch = s.mismatch ∧ (s.completeConversion v raw).context = s.context ∧
    (s.completeConversion v raw).notices = s.notices ∧ (s.completeConversion v raw).policy = s.policy ∧
    (s.completeConversion v raw).loader = s.loader ∧ (s.completeConversion v raw).freeCount = s.freeCount := by
  unfold State.completeConversion; dsimp only; split <;> simp

@[simp] theorem State.takeConversion_frame (s : State) (v : Conversion) (raw : BitVec 12) :
    (s.takeConversion v raw).pending = s.pending ∧ (s.takeConversion v raw).rstHeld = s.rstHeld ∧
    (s.takeConversion v raw).link = s.link ∧ (s.takeConversion v raw).engine = s.engine ∧
    (s.takeConversion v raw).grants = s.grants ∧ (s.takeConversion v raw).windows = s.windows ∧
    (s.takeConversion v raw).classifier = s.classifier ∧ (s.takeConversion v raw).supply = s.supply ∧
    (s.takeConversion v raw).mismatch = s.mismatch ∧ (s.takeConversion v raw).context = s.context ∧
    (s.takeConversion v raw).policy = s.policy ∧ (s.takeConversion v raw).loader = s.loader ∧
    (s.takeConversion v raw).freeCount = s.freeCount := by simp [State.takeConversion]

@[simp] theorem State.reevaluateFrame_frame (s : State) (before : Fin 24) :
    (s.reevaluateFrame before).pending = s.pending ∧ (s.reevaluateFrame before).rstHeld = s.rstHeld ∧
    (s.reevaluateFrame before).link = s.link ∧ (s.reevaluateFrame before).engine = s.engine ∧
    (s.reevaluateFrame before).grants = s.grants ∧ (s.reevaluateFrame before).windows = s.windows ∧
    (s.reevaluateFrame before).thermal = s.thermal ∧ (s.reevaluateFrame before).scanner = s.scanner ∧
    (s.reevaluateFrame before).classifier = s.classifier ∧ (s.reevaluateFrame before).supply = s.supply ∧
    (s.reevaluateFrame before).mismatch = s.mismatch ∧ (s.reevaluateFrame before).context = s.context ∧
    (s.reevaluateFrame before).events = s.events ∧ (s.reevaluateFrame before).policy = s.policy ∧
    (s.reevaluateFrame before).loader = s.loader ∧ (s.reevaluateFrame before).freeCount = s.freeCount := by
  unfold State.reevaluateFrame; dsimp only; repeat' split
  all_goals simp

/-- A re-evaluation of the frame sets the frame and no other figure of the sequencer (R125). -/
@[simp] theorem State.reevaluateFrame_sequencer (s : State) (before : Fin 24) :
    (s.reevaluateFrame before).sequencer = { s.sequencer with frame := s.sequencer.frameDue } := by
  unfold State.reevaluateFrame; dsimp only; repeat' split
  all_goals simp

@[simp] theorem State.enterStep_frame (s : State) (i : Fin 24) :
    (s.enterStep i).pending = s.pending ∧ (s.enterStep i).rstHeld = s.rstHeld ∧
    (s.enterStep i).link = s.link ∧ (s.enterStep i).engine = s.engine ∧
    (s.enterStep i).grants = s.grants ∧ (s.enterStep i).windows = s.windows ∧
    (s.enterStep i).thermal = s.thermal ∧ (s.enterStep i).scanner = s.scanner ∧
    (s.enterStep i).classifier = s.classifier ∧ (s.enterStep i).supply = s.supply ∧
    (s.enterStep i).mismatch = s.mismatch ∧ (s.enterStep i).context = s.context ∧
    (s.enterStep i).events = s.events ∧ (s.enterStep i).policy = s.policy ∧
    (s.enterStep i).loader = s.loader ∧ (s.enterStep i).freeCount = s.freeCount := by simp [State.enterStep]

@[simp] theorem State.testLead_frame (s : State) :
    (s.testLead).pending = s.pending ∧ (s.testLead).rstHeld = s.rstHeld ∧
    (s.testLead).link = s.link ∧ (s.testLead).engine = s.engine ∧
    (s.testLead).grants = s.grants ∧ (s.testLead).windows = s.windows ∧
    (s.testLead).thermal = s.thermal ∧ (s.testLead).scanner = s.scanner ∧
    (s.testLead).classifier = s.classifier ∧ (s.testLead).sequencer = s.sequencer ∧
    (s.testLead).supply = s.supply ∧ (s.testLead).mismatch = s.mismatch ∧
    (s.testLead).context = s.context ∧ (s.testLead).events = s.events ∧
    (s.testLead).policy = s.policy ∧ (s.testLead).loader = s.loader ∧
    (s.testLead).freeCount = s.freeCount := by
  unfold State.testLead; dsimp only; split <;> simp

@[simp] theorem State.beginRun_frame (s : State) (r : RunParams) :
    (s.beginRun r).pending = s.pending ∧ (s.beginRun r).rstHeld = s.rstHeld ∧
    (s.beginRun r).link = s.link ∧ (s.beginRun r).engine = s.engine ∧
    (s.beginRun r).grants = s.grants ∧ (s.beginRun r).windows = s.windows ∧
    (s.beginRun r).thermal = s.thermal ∧ (s.beginRun r).scanner = s.scanner ∧
    (s.beginRun r).classifier = s.classifier ∧ (s.beginRun r).supply = s.supply ∧
    (s.beginRun r).mismatch = s.mismatch ∧ (s.beginRun r).context = s.context ∧
    (s.beginRun r).events = s.events ∧ (s.beginRun r).policy = s.policy ∧
    (s.beginRun r).loader = s.loader ∧ (s.beginRun r).freeCount = s.freeCount := by simp [State.beginRun]

@[simp] theorem State.beginPending_frame (s : State) (r : RunParams) :
    (s.beginPending r).pending = s.pending ∧ (s.beginPending r).rstHeld = s.rstHeld ∧
    (s.beginPending r).link = s.link ∧ (s.beginPending r).engine = s.engine ∧
    (s.beginPending r).grants = s.grants ∧ (s.beginPending r).windows = s.windows ∧
    (s.beginPending r).thermal = s.thermal ∧ (s.beginPending r).scanner = s.scanner ∧
    (s.beginPending r).classifier = s.classifier ∧ (s.beginPending r).supply = s.supply ∧
    (s.beginPending r).mismatch = s.mismatch ∧ (s.beginPending r).context = s.context ∧
    (s.beginPending r).events = s.events ∧ (s.beginPending r).policy = s.policy ∧
    (s.beginPending r).loader = s.loader ∧ (s.beginPending r).freeCount = s.freeCount := by simp [State.beginPending]

@[simp] theorem State.goIdle_frame (s : State) (m : BitVec 4) (v : Nat) :
    (s.goIdle m v).pending = s.pending ∧ (s.goIdle m v).rstHeld = s.rstHeld ∧
    (s.goIdle m v).link = s.link ∧ (s.goIdle m v).engine = s.engine ∧
    (s.goIdle m v).grants = s.grants ∧ (s.goIdle m v).windows = s.windows ∧
    (s.goIdle m v).thermal = s.thermal ∧ (s.goIdle m v).scanner = s.scanner ∧
    (s.goIdle m v).classifier = s.classifier ∧ (s.goIdle m v).supply = s.supply ∧
    (s.goIdle m v).mismatch = s.mismatch ∧ (s.goIdle m v).context = s.context ∧
    (s.goIdle m v).policy = s.policy ∧ (s.goIdle m v).loader = s.loader ∧
    (s.goIdle m v).freeCount = s.freeCount := by simp [State.goIdle]

@[simp] theorem State.completeRun_frame (s : State) :
    (s.completeRun).pending = s.pending ∧ (s.completeRun).rstHeld = s.rstHeld ∧
    (s.completeRun).link = s.link ∧ (s.completeRun).engine = s.engine ∧
    (s.completeRun).grants = s.grants ∧ (s.completeRun).windows = s.windows ∧
    (s.completeRun).thermal = s.thermal ∧ (s.completeRun).scanner = s.scanner ∧
    (s.completeRun).classifier = s.classifier ∧ (s.completeRun).supply = s.supply ∧
    (s.completeRun).mismatch = s.mismatch ∧ (s.completeRun).context = s.context ∧
    (s.completeRun).policy = s.policy ∧ (s.completeRun).loader = s.loader ∧
    (s.completeRun).freeCount = s.freeCount := by simp [State.completeRun]

@[simp] theorem State.endRun_frame (s : State) :
    (s.endRun).pending = s.pending ∧ (s.endRun).rstHeld = s.rstHeld ∧
    (s.endRun).link = s.link ∧ (s.endRun).engine = s.engine ∧
    (s.endRun).grants = s.grants ∧ (s.endRun).windows = s.windows ∧
    (s.endRun).thermal = s.thermal ∧ (s.endRun).scanner = s.scanner ∧
    (s.endRun).classifier = s.classifier ∧ (s.endRun).supply = s.supply ∧
    (s.endRun).mismatch = s.mismatch ∧ (s.endRun).context = s.context ∧
    (s.endRun).policy = s.policy ∧ (s.endRun).loader = s.loader ∧
    (s.endRun).freeCount = s.freeCount := by
  unfold State.endRun; repeat' split
  all_goals simp

@[simp] theorem State.runningBoundary_frame (s : State) :
    (s.runningBoundary).pending = s.pending ∧ (s.runningBoundary).rstHeld = s.rstHeld ∧
    (s.runningBoundary).link = s.link ∧ (s.runningBoundary).engine = s.engine ∧
    (s.runningBoundary).grants = s.grants ∧ (s.runningBoundary).windows = s.windows ∧
    (s.runningBoundary).thermal = s.thermal ∧ (s.runningBoundary).scanner = s.scanner ∧
    (s.runningBoundary).classifier = s.classifier ∧ (s.runningBoundary).supply = s.supply ∧
    (s.runningBoundary).mismatch = s.mismatch ∧ (s.runningBoundary).context = s.context ∧
    (s.runningBoundary).policy = s.policy ∧ (s.runningBoundary).loader = s.loader ∧
    (s.runningBoundary).freeCount = s.freeCount := by
  unfold State.runningBoundary; dsimp only; repeat' split
  all_goals simp

@[simp] theorem State.holdingBoundary_frame (s : State) :
    (s.holdingBoundary).pending = s.pending ∧ (s.holdingBoundary).rstHeld = s.rstHeld ∧
    (s.holdingBoundary).link = s.link ∧ (s.holdingBoundary).engine = s.engine ∧
    (s.holdingBoundary).grants = s.grants ∧ (s.holdingBoundary).windows = s.windows ∧
    (s.holdingBoundary).thermal = s.thermal ∧ (s.holdingBoundary).scanner = s.scanner ∧
    (s.holdingBoundary).classifier = s.classifier ∧ (s.holdingBoundary).supply = s.supply ∧
    (s.holdingBoundary).mismatch = s.mismatch ∧ (s.holdingBoundary).context = s.context ∧
    (s.holdingBoundary).policy = s.policy ∧ (s.holdingBoundary).loader = s.loader ∧
    (s.holdingBoundary).freeCount = s.freeCount := by
  unfold State.holdingBoundary; dsimp only; repeat' split
  all_goals simp

@[simp] theorem State.periodBoundary_frame (s : State) :
    (s.periodBoundary).pending = s.pending ∧ (s.periodBoundary).rstHeld = s.rstHeld ∧
    (s.periodBoundary).link = s.link ∧ (s.periodBoundary).engine = s.engine ∧
    (s.periodBoundary).grants = s.grants ∧ (s.periodBoundary).windows = s.windows ∧
    (s.periodBoundary).thermal = s.thermal ∧ (s.periodBoundary).scanner = s.scanner ∧
    (s.periodBoundary).classifier = s.classifier ∧ (s.periodBoundary).supply = s.supply ∧
    (s.periodBoundary).mismatch = s.mismatch ∧ (s.periodBoundary).context = s.context ∧
    (s.periodBoundary).policy = s.policy ∧ (s.periodBoundary).loader = s.loader ∧
    (s.periodBoundary).freeCount = s.freeCount := by
  unfold State.periodBoundary; split <;> simp

@[simp] theorem State.freezeFrom_frame (s : State) (was : RememberedState) :
    (s.freezeFrom was).pending = s.pending ∧ (s.freezeFrom was).rstHeld = s.rstHeld ∧
    (s.freezeFrom was).link = s.link ∧ (s.freezeFrom was).engine = s.engine ∧
    (s.freezeFrom was).grants = s.grants ∧ (s.freezeFrom was).windows = s.windows ∧
    (s.freezeFrom was).thermal = s.thermal ∧ (s.freezeFrom was).scanner = s.scanner ∧
    (s.freezeFrom was).classifier = s.classifier ∧ (s.freezeFrom was).supply = s.supply ∧
    (s.freezeFrom was).mismatch = s.mismatch ∧ (s.freezeFrom was).context = s.context ∧
    (s.freezeFrom was).events = s.events ∧ (s.freezeFrom was).policy = s.policy ∧
    (s.freezeFrom was).loader = s.loader ∧ (s.freezeFrom was).freeCount = s.freeCount := by simp [State.freezeFrom]

@[simp] theorem State.takeLine_frame (s : State) (line : OvlLine) :
    (s.takeLine line).pending = s.pending ∧ (s.takeLine line).rstHeld = s.rstHeld ∧
    (s.takeLine line).link = s.link ∧ (s.takeLine line).engine = s.engine ∧
    (s.takeLine line).grants = s.grants ∧ (s.takeLine line).windows = s.windows ∧
    (s.takeLine line).thermal = s.thermal ∧ (s.takeLine line).scanner = s.scanner ∧
    (s.takeLine line).classifier = s.classifier ∧ (s.takeLine line).mismatch = s.mismatch ∧
    (s.takeLine line).context = s.context ∧ (s.takeLine line).policy = s.policy ∧
    (s.takeLine line).loader = s.loader ∧ (s.takeLine line).freeCount = s.freeCount := by simp [State.takeLine]

@[simp] theorem State.pinChanged_frame (s : State) (line : OvlLine) (level : Bool) :
    (s.pinChanged line level).pending = s.pending ∧ (s.pinChanged line level).rstHeld = s.rstHeld ∧
    (s.pinChanged line level).link = s.link ∧ (s.pinChanged line level).engine = s.engine ∧
    (s.pinChanged line level).grants = s.grants ∧ (s.pinChanged line level).windows = s.windows ∧
    (s.pinChanged line level).thermal = s.thermal ∧ (s.pinChanged line level).scanner = s.scanner ∧
    (s.pinChanged line level).classifier = s.classifier ∧ (s.pinChanged line level).mismatch = s.mismatch ∧
    (s.pinChanged line level).context = s.context ∧ (s.pinChanged line level).policy = s.policy ∧
    (s.pinChanged line level).loader = s.loader ∧ (s.pinChanged line level).freeCount = s.freeCount := by
  unfold State.pinChanged; dsimp only; repeat' split
  all_goals simp

@[simp] theorem State.endHold_frame (s : State) :
    (s.endHold).pending = s.pending ∧ (s.endHold).rstHeld = s.rstHeld ∧
    (s.endHold).link = s.link ∧ (s.endHold).engine = s.engine ∧
    (s.endHold).grants = s.grants ∧ (s.endHold).windows = s.windows ∧
    (s.endHold).thermal = s.thermal ∧ (s.endHold).scanner = s.scanner ∧
    (s.endHold).classifier = s.classifier ∧ (s.endHold).sequencer = s.sequencer ∧
    (s.endHold).mismatch = s.mismatch ∧ (s.endHold).context = s.context ∧
    (s.endHold).events = s.events ∧ (s.endHold).policy = s.policy ∧
    (s.endHold).loader = s.loader ∧ (s.endHold).freeCount = s.freeCount := by simp [State.endHold]

@[simp] theorem State.setContext_frame (s : State) (x : Context) :
    (s.setContext x).pending = s.pending ∧ (s.setContext x).rstHeld = s.rstHeld ∧
    (s.setContext x).link = s.link ∧ (s.setContext x).engine = s.engine ∧
    (s.setContext x).grants = s.grants ∧ (s.setContext x).windows = s.windows ∧
    (s.setContext x).thermal = s.thermal ∧ (s.setContext x).scanner = s.scanner ∧
    (s.setContext x).classifier = s.classifier ∧ (s.setContext x).sequencer = s.sequencer ∧
    (s.setContext x).supply = s.supply ∧ (s.setContext x).mismatch = s.mismatch ∧
    (s.setContext x).events = s.events ∧ (s.setContext x).notices = s.notices ∧
    (s.setContext x).policy = s.policy ∧ (s.setContext x).loader = s.loader ∧
    (s.setContext x).freeCount = s.freeCount := by simp [State.setContext]

@[simp] theorem State.sampleLines_frame (s : State) :
    (s.sampleLines).pending = s.pending ∧ (s.sampleLines).rstHeld = s.rstHeld ∧
    (s.sampleLines).link = s.link ∧ (s.sampleLines).engine = s.engine ∧
    (s.sampleLines).grants = s.grants ∧ (s.sampleLines).windows = s.windows ∧
    (s.sampleLines).thermal = s.thermal ∧ (s.sampleLines).scanner = s.scanner ∧
    (s.sampleLines).classifier = s.classifier ∧ (s.sampleLines).mismatch = s.mismatch ∧
    (s.sampleLines).context = s.context ∧ (s.sampleLines).policy = s.policy ∧
    (s.sampleLines).loader = s.loader ∧ (s.sampleLines).freeCount = s.freeCount := by simp [State.sampleLines]

@[simp] theorem State.reevaluateThermal_frame (s : State) :
    (s.reevaluateThermal).pending = s.pending ∧ (s.reevaluateThermal).rstHeld = s.rstHeld ∧
    (s.reevaluateThermal).link = s.link ∧ (s.reevaluateThermal).engine = s.engine ∧
    (s.reevaluateThermal).grants = s.grants ∧ (s.reevaluateThermal).windows = s.windows ∧
    (s.reevaluateThermal).scanner = s.scanner ∧ (s.reevaluateThermal).classifier = s.classifier ∧
    (s.reevaluateThermal).supply = s.supply ∧ (s.reevaluateThermal).mismatch = s.mismatch ∧
    (s.reevaluateThermal).context = s.context ∧ (s.reevaluateThermal).policy = s.policy ∧
    (s.reevaluateThermal).loader = s.loader ∧ (s.reevaluateThermal).freeCount = s.freeCount := by simp [State.reevaluateThermal]

@[simp] theorem State.reactToLoad_frame (s : State) :
    (s.reactToLoad).pending = s.pending ∧ (s.reactToLoad).rstHeld = s.rstHeld ∧
    (s.reactToLoad).link = s.link ∧ (s.reactToLoad).engine = s.engine ∧
    (s.reactToLoad).grants = s.grants ∧ (s.reactToLoad).windows = s.windows ∧
    (s.reactToLoad).scanner = s.scanner ∧ (s.reactToLoad).classifier = s.classifier ∧
    (s.reactToLoad).mismatch = s.mismatch ∧ (s.reactToLoad).context = s.context ∧
    (s.reactToLoad).policy = s.policy ∧ (s.reactToLoad).loader = s.loader := by
  unfold State.reactToLoad; dsimp only; repeat' split
  all_goals simp

@[simp] theorem State.applySampled_frame (s : State) :
    (s.applySampled).pending = s.pending ∧ (s.applySampled).rstHeld = s.rstHeld ∧
    (s.applySampled).link = s.link ∧ (s.applySampled).engine = s.engine ∧
    (s.applySampled).grants = s.grants ∧ (s.applySampled).windows = s.windows ∧
    (s.applySampled).thermal = s.thermal ∧ (s.applySampled).scanner = s.scanner ∧
    (s.applySampled).classifier = s.classifier ∧ (s.applySampled).mismatch = s.mismatch ∧
    (s.applySampled).context = s.context ∧ (s.applySampled).policy = s.policy ∧
    (s.applySampled).loader = s.loader ∧ (s.applySampled).freeCount = s.freeCount := by
  unfold State.applySampled; dsimp only; split <;> simp

@[simp] theorem State.tellTripped_frame (s : State) :
    (s.tellTripped).pending = s.pending ∧ (s.tellTripped).rstHeld = s.rstHeld ∧
    (s.tellTripped).link = s.link ∧ (s.tellTripped).engine = s.engine ∧
    (s.tellTripped).grants = s.grants ∧ (s.tellTripped).windows = s.windows ∧
    (s.tellTripped).thermal = s.thermal ∧ (s.tellTripped).scanner = s.scanner ∧
    (s.tellTripped).classifier = s.classifier ∧ (s.tellTripped).sequencer = s.sequencer ∧
    (s.tellTripped).supply = s.supply ∧ (s.tellTripped).mismatch = s.mismatch ∧
    (s.tellTripped).context = s.context ∧ (s.tellTripped).events = s.events ∧
    (s.tellTripped).policy = s.policy ∧ (s.tellTripped).loader = s.loader ∧
    (s.tellTripped).freeCount = s.freeCount := by
  unfold State.tellTripped; split <;> simp

end Sys2Proof.Machine
end

