-- ==== Sys2Proof/Laws/Ports.lean ====
section
/-! SUPPORT. What the ports' bytes come to. -/

namespace Sys2Proof

/-- Every frame comes to a command the port can meet. -/
theorem linkFrame_wellFormed (bytes : List Byte) : (linkFrame bytes).wellFormed = true := by
  match bytes with
  | [] => rfl
  | [_] => rfl
  | kind :: length :: fields =>
    by_cases good : linkHeaderGood kind length = true
    · by_cases short : fields.length < length.toNat
      · simp [linkFrame, good, short, Instr.wellFormed, requestIncomplete]
      · simp only [linkFrame, good, if_true, if_neg short]
        have hk : kind.toNat = 1 ∨ kind.toNat = 2 ∨ kind.toNat = 3 ∨ kind.toNat = 4 ∨ kind.toNat = 5 := by
          simp only [linkHeaderGood, linkFieldCount] at good
          split at good <;> simp_all
        rcases hk with hk | hk | hk | hk | hk <;> simp [linkMessage, hk, Instr.wellFormed]
    · simp [linkFrame, good, Instr.wellFormed]

/-- A request part that is not complete is a short frame. -/
theorem linkFrame_short {bytes : List Byte} (h : requestIncomplete bytes = true) :
    linkFrame bytes = .shortFrame bytes := by
  match bytes with
  | [] => rfl
  | [_] => rfl
  | kind :: length :: fields =>
    simp only [requestIncomplete, Bool.and_eq_true, decide_eq_true_eq] at h
    simp [linkFrame, h.1, h.2]

namespace Machine

@[simp] theorem State.withLinkFrame_pending (s : State) (bytes : List Byte) :
    (s.withLinkFrame bytes).pending = linkFrame bytes :: s.pending := rfl

/-- A write to another target address does not reach the part. -/
theorem State.withPolicyWrite_other {s : State} {address : BitVec 7} (h : address ≠ s.policy.address)
    (bytes : List Byte) : s.withPolicyWrite address bytes = s := by
  simp [State.withPolicyWrite, h]

/-- A write to the port's address puts its events before the part. -/
theorem State.withPolicyWrite_own (s : State) (bytes : List Byte) :
    s.withPolicyWrite s.policy.address bytes = s.withPending (policyWrite bytes ++ s.pending) := by
  simp [State.withPolicyWrite]

end Machine

end Sys2Proof
end

