-- ==== Sys2Proof/Laws/Trips.lean ====
section
/-! SUPPORT. What a change of the thermal states raises, in the words of `Safety.lean` (R85, R86, R166). -/

namespace Sys2Proof.Machine

open Sys2Proof

/-- The gate of the trigger latch, in the words of R166. -/
theorem State.triggerPasses_iff (s : State) (k : TriggerKind) :
    s.triggerPasses k = true ↔ s.context.current.triggers.getLsbD k.index.val = true ∧
      s.events.latch = none ∧ s.loader.load = .ready := by
  simp only [State.triggerPasses, State.isLoading, Bool.and_eq_true, Option.isNone_iff_eq_none, and_assoc]
  cases s.loader.load <;> simp

/-- The chains that entered TRIPPED, as the announcement finds them. -/
theorem State.tripEntries_eq (s t : State) :
    s.tripEntries t = chainsWhere (tripEntered s.thermal t.thermal) := by
  simp only [State.tripEntries, chainsWhere]
  congr 1; funext c
  simp only [tripEntered, ThermalEstimator.isTripped]
  cases s.thermal.chains[c].state <;> cases t.thermal.chains[c].state <;> rfl

/-- The mask of the changes, as the announcement forms it. -/
theorem State.tripChanges_eq (s t : State) :
    s.tripChanges t = maskOf (tripChanged s.thermal t.thermal) := by
  simp only [State.tripChanges]
  congr 1; funext c
  simp only [tripChanged, ThermalEstimator.isTripped]
  cases s.thermal.chains[c].state <;> cases t.thermal.chains[c].state <;> decide

/-- The tripped mask, as the announcement forms it. -/
theorem State.trippedIn_eq (t : State) : t.trippedIn = t.thermal.trippedMask := by
  simp only [State.trippedIn, ThermalEstimator.trippedMask]
  congr 1

/-- TRIP events of a list of chains: the TRIP record counts each, and nothing else of the latch moves. -/
theorem State.raiseTrips_events (l : List Chain) (s : State) :
    let t := l.foldl (fun t c => t.raiseEvent .trip (eventMask (chainBit c))) s
    t.events.records[2] = recordOfTrips l s.events.records[2] ∧
      (∀ i : Fin 9, i ≠ 2 → t.events.records[i] = s.events.records[i]) ∧
      t.events.alertMask = s.events.alertMask ∧ t.events.latch = s.events.latch := by
  induction l generalizing s with
  | nil => simp [recordOfTrips]
  | cons c l ih =>
    obtain ⟨h1, h2, h3, h4⟩ := ih (s.raiseEvent .trip (eventMask (chainBit c)))
    refine ⟨?_, fun i hi => ?_, h3, h4⟩
    · simp only [List.foldl_cons] at h1 ⊢
      rw [h1]
      simp [State.raiseEvent, State.withEvents, EventKind.index, recordOfTrips, EventRecord.take, count8]
      rfl
    · simp only [List.foldl_cons] at h2 ⊢
      rw [h2 i hi]
      have : (2 : Fin 9).val ≠ i.val := fun h => hi (Fin.ext h.symm)
      simp only [State.raiseEvent, State.withEvents, EventKind.index, Fin.getElem_fin]
      rw [Vector.getElem_set, if_neg this]

/-- The TRIP trigger presented for a list of chains: the first passes when the gate lets it, and no
later one does. -/
theorem State.presentTrips_cases (l : List Chain) (s : State) :
    let t := l.foldl (fun t _ => t.presentTrigger .trip) s
    t.events.records = s.events.records ∧ t.events.alertMask = s.events.alertMask ∧
      (l ≠ [] ∧ s.triggerPasses .trip = true →
        t.events.latch = some .trip ∧ t.sequencer = s.sequencer.takeStart s.sequencer.triggers[1]) ∧
      (¬(l ≠ [] ∧ s.triggerPasses .trip = true) →
        t.events.latch = s.events.latch ∧ t.sequencer = s.sequencer) := by
  have stuck : ∀ (l : List Chain) (s : State), s.triggerPasses .trip ≠ true →
      l.foldl (fun t _ => t.presentTrigger .trip) s = s := by
    intro l s h
    induction l with
    | nil => rfl
    | cons c l ih => simpa [State.presentTrigger, h] using ih
  cases l with
  | nil => simp
  | cons c l =>
    by_cases h : s.triggerPasses .trip = true
    · have step : s.presentTrigger .trip = (s.withEvents { s.events with latch := some .trip }).withSequencer
          (s.sequencer.takeStart s.sequencer.triggers[1]) := by simp [State.presentTrigger, h, TriggerKind.index]
      have closed : (s.presentTrigger .trip).triggerPasses .trip ≠ true := by
        rw [step]; simp [State.triggerPasses]
      rw [List.foldl_cons, stuck _ _ closed, step]
      simp [h]
    · rw [stuck _ _ h]
      simp [h]

/-- Everything a change of the thermal records raises: the TRIP events, the TRIP_CHANGE and the trigger. -/
theorem State.changeThermal_raises (s : State) (after : ThermalEstimator) :
    let t := s.changeThermal after
    s.TripsRaised t ∧ t.notices = s.toldTrips t s.notices ∧
      (∀ i : Fin 9, i ≠ 2 → t.events.records[i] = s.events.records[i]) ∧
      t.events.alertMask = s.events.alertMask := by
  intro t
  have thermal : t.thermal = after := State.changeThermal_thermal s after
  have entries : s.tripEntries t = chainsWhere (tripEntered s.thermal after) := by
    rw [State.tripEntries_eq, thermal]
  have changes : s.tripChanges t = maskOf (tripChanged s.thermal after) := by
    rw [State.tripChanges_eq, thermal]
  have mask : t.trippedIn = after.trippedMask := by rw [State.trippedIn_eq, thermal]
  obtain ⟨l, hl⟩ : ∃ l, l = chainsWhere (tripEntered s.thermal after) := ⟨_, rfl⟩
  obtain ⟨raised, hr⟩ : ∃ raised,
      raised = l.foldl (fun t c => t.raiseEvent .trip (eventMask (chainBit c))) (s.withThermal after) := ⟨_, rfl⟩
  obtain ⟨told, ht⟩ : ∃ told, told = if maskOf (tripChanged s.thermal after) = 0 then raised
    else raised.queueNotice .tripChange (maskOf (tripChanged s.thermal after)) after.trippedMask.toNat := ⟨_, rfl⟩
  have hraised := State.raiseTrips_events l (s.withThermal after)
  have hframe := State.raiseTrips_frame (s.withThermal after) l
  rw [← hr] at hraised hframe
  have ev : told.events = raised.events := by rw [ht]; split <;> simp
  have sq : told.sequencer = s.sequencer := by rw [ht]; split <;> simp [hframe]
  have cx : told.context = s.context := by rw [ht]; split <;> simp [hframe]
  have ld : told.loader = s.loader := by rw [ht]; split <;> simp [hframe]
  have lat : told.events.latch = s.events.latch := by rw [ev, hraised.2.2.2]; rfl
  have ht' : t = l.foldl (fun t _ => t.presentTrigger .trip) told := by
    show s.changeThermal after = _
    rw [ht, hr, hl]
    simp only [State.changeThermal, State.announceTrips]
    have : (List.foldl (fun t c => t.raiseEvent .trip (eventMask (chainBit c))) (s.withThermal after)
      (chainsWhere (tripEntered s.thermal after))).thermal = after := by
      rw [← hl, ← hr]; exact hframe.2.2.2.2.2.2.1
    rfl
  have pass : told.triggerPasses .trip = true ↔ s.context.current.triggers.getLsbD 1 = true ∧
      s.events.latch = none ∧ s.loader.load = .ready := by
    rw [State.triggerPasses_iff, cx, lat, ld]; rfl
  obtain ⟨p1, p2, p3, p4⟩ := State.presentTrips_cases l told
  rw [← ht'] at p1 p2 p3 p4
  have notes : t.notices = told.notices := by rw [ht']; simp
  refine ⟨⟨?_, ?_, ?_⟩, ?_, ?_, ?_⟩
  · rw [entries, ← hl, p1, ev]; exact hraised.1
  · intro h
    rw [entries, ← hl] at h
    have := p3 ⟨h.1, pass.2 h.2⟩
    rwa [sq] at this
  · intro h
    rw [entries, ← hl] at h
    have := p4 (fun g => h ⟨g.1, pass.1 g.2⟩)
    rwa [sq, lat] at this
  · rw [notes, ht]
    simp only [State.toldTrips, changes, mask]
    split
    · simp [hframe]
    · simp [State.queueNotice, hframe]
  · intro i hi
    rw [p1, ev]; exact hraised.2.1 i hi
  · rw [p2, ev]; exact hraised.2.2.1

end Sys2Proof.Machine
end

