-- ==== Sys2Proof/Tests/Slice0.lean ====
section
/-! SUPPORT. The model's own tests: the well-formedness smoke, worked examples of the manual, and for each
statement with hypotheses a state and operands that meet them. -/

namespace Sys2Proof.Tests

-- One theorem at a time: the theorems below would otherwise each hold a thread's stack.
set_option Elab.async false

open Sys2Proof Sys2Proof.Machine

/-! ### Helpers -/

/-- A READY part on the built-in contents, every timer that a load starts running. -/
def ready : State :=
  { State.reset with
    loader := ⟨.ready, .imageUsed, some Contents.builtIn⟩
    scanner := State.reset.scanner.begin 0
    thermal := { State.reset.thermal with timer := some 250000 }
    sequencer := { State.reset.sequencer with timer := some 500000 } }

/-- A part whose port gathers the write that this command byte opened. -/
def sending (b : Byte) (s : State) : State :=
  { s with policy := { s.policy with inFlight := some b } }

/-- The part held in reset. -/
def held : State :=
  { State.reset with rstHeld := true }

/-- A READY part with these records open on chain 0. -/
def opened (l : List OpenGrant) : State :=
  { ready with
    grants :=
      { chains := ready.grants.chains.set 0 ⟨l, (l.map (·.projected)).sum, 0⟩
        poolSum := (l.map (·.power)).sum } }

/-- An open record with this tag, at code 200 for duration 32. -/
def record (tag : Byte) : OpenGrant :=
  ⟨tag, 200, 103872, 32, 51936, 6⟩

/-- A READY part whose chain 0 has this estimate and thermal state. -/
def chainAt (estimate : Int) (state : ThermalState) : State :=
  { ready with
    thermal := { ready.thermal with
      chains := ready.thermal.chains.set 0 { ready.thermal.chains[0] with estimate := estimate, state := state } } }

/-- A READY part whose chain 0 has this mismatch record. -/
def mismatchAt (m : MismatchChain) : State :=
  { ready with mismatch := { ready.mismatch with chains := ready.mismatch.chains.set 0 m } }

/-- A READY part with this sequencer state, over steps 0 to 1 of two periods each. -/
def sequencing (state : SequencerState) : State :=
  { ready with
    sequencer := { ready.sequencer with
      state := state
      run := ⟨0, 1, 0⟩
      program := (ready.sequencer.program.set 0 ⟨40, 2, .accel, 3, 1, 1, true⟩).set 1 ⟨24, 2, .slope, 0, 0, 1, false⟩ } }

/-- A READY part with this applied level and these taken levels of the two lines. -/
def levels (applied : SupplyLevel) (warn crit : Bool) : State :=
  { ready with
    supply := { ready.supply with
      applied := applied
      warnLine := ⟨warn, warn, none⟩
      critLine := ⟨crit, crit, none⟩ } }

/-- A READY part with a matcher write in flight. -/
def writing : State :=
  { ready with
    classifier := ready.classifier.beginWrite 5 ⟨true, Vector.replicate 8 0, Vector.replicate 8 0, 3⟩ }

/-- A descriptor that is 0 but for byte 0. -/
def plain (b : Byte) : Descriptor :=
  (Vector.replicate 8 0).set 0 b

/-- The state a command leaves. -/
def after (c : Instr) (s : State) : State :=
  match exec c s with
  | .next t => t
  | .fault _ => s
  | .refused _ => s

/-! ### Well-formedness smoke -/

theorem test_badFrame_of_good_header_refused : (Instr.badFrame 0x01 12).wellFormed = false := by decide
theorem test_complete_shortFrame_refused : (Instr.shortFrame [0x02, 5, 0, 0, 0, 0, 0]).wellFormed = false := by decide
theorem test_badCommand_of_table_refused : (Instr.badCommand 0x10 []).wellFormed = false := by decide
theorem test_wellFormed_neighbours :
    (Instr.badFrame 0x01 11).wellFormed = true ∧ (Instr.shortFrame [0x02, 5, 0, 0, 0, 0]).wellFormed = true ∧
    (Instr.badCommand 0x17 []).wellFormed = true := by decide

/-! ### Worked examples of the manual -/

/-- R4, R5, R6 and 1.2: L of some codes and Linv of some figures. -/
theorem test_power_table :
    linearPower 212 = 207744 ∧ linearPower 200 = 103872 ∧ linearPower 120 = 1024 ∧ linv 2492415 = some 254 := by decide +kernel

/-- Chapters 2 and 3, worked examples: code 200 for 32 is projected at 51,936 eu, code 91 for 32 at 95 eu. -/
theorem test_projected_energy : projectedEnergy 200 32 = 51936 ∧ projectedEnergy 91 32 = 95 := by decide

/-- R20, R110: while LOADING a request for 212 is granted at the start-up ceiling 160 with factor STARTUP. -/
theorem test_loading_grant :
    (after (.burstReq 0 1 212 32 (plain 0)) State.reset).link.response =
      [0x01, 0x10, 0x00, 1, 0, 160, 52, 4, 7, 0, 0, 0] := by decide +kernel

/-- R44: an unknown tag is answered UNKNOWN_TAG and counted. -/
theorem test_unknown_close :
    (after (.burstClose 2 9 200 32 0) ready).grants.chains[2].lateCloses = 1 := by decide

/-- R46: a close at 164 for 37 of a grant at 200 for 32 is an excess close by its duration. -/
theorem test_excess_by_duration :
    (after (.burstClose 0 8 164 37 2) (opened [record 8])).events.records[5] = ⟨true, 1, 1⟩ := by decide +kernel

/-- R64: a bucket expiry moves the current position on. -/
theorem test_bucket_expiry : (after .bucketExpiry ready).windows.current = 1 := by decide

/-- R84: with slope 64, b_th reaches 127 at an excess of 508 over the knee 720. -/
theorem test_thermal_backoff :
    (chainAt 1228 .warm).thermal.chains[0].backoff = 127 ∧ (chainAt 1227 .warm).thermal.chains[0].backoff = 126 := by decide

/-- R79: from 400 a sample of 830 with blend gain 4 moves the estimate by a quarter, toward zero. -/
theorem test_blend :
    (ready.thermal.chains[0].deliver (.valid 830 false) false).estimate = 507 := by decide

/-- R88: the first valid board sample, 1400, trips all four chains. -/
theorem test_seed_trips :
    (ready.thermal.deliver 4 (.valid 1400 false)).trippedMask = 0xF := by decide

/-- R95, R97: raw readings 0 and 4095 are INVALID; the fourth of a run is a loss. -/
theorem test_rails : rawValid 0 = false ∧ rawValid 4095 = false ∧ rawValid 4094 = true ∧
    (SensorRecord.powerOn).losing = false := by decide

/-- R109, R110: with nothing matched and byte 0 zero the class is 7. -/
theorem test_class_seven : (ready.classify (plain 0)).1 = 7 := by decide

/-- R121: a dwell of 0 is stored as 1 and a target above 127 as 127. -/
theorem test_step_adjusted :
    parseStep [4, 200, 0, 2, 20, 16, 6, 1] = some (4, ⟨127, 1, .accel, 15, 15, 6, true⟩) := by decide

/-- R124: SLOPE from 0 to 40 over 4 periods stands at 10 after one, and rounds toward B0. -/
theorem test_slope : slopeBackoff 0 40 1 4 = 10 ∧ slopeBackoff 24 16 1 3 = 22 := by decide

/-- R145: 1,200,000 under WARN with shift 1, and under CRIT with limit 400,000. -/
theorem test_effective_limit :
    effectiveLimit .warn 1200000 OverloadSettings.builtIn = 600000 ∧
    effectiveLimit .crit 1200000 OverloadSettings.builtIn = 400000 := by decide

/-- R154: a ceiling of 120 with a minimum of 160 is refused. -/
theorem test_ceiling_below_minimum :
    (after (.setChain [0, 1, 120, 160, 0, 0, 0, 0, 1]) (sending 0x40 ready)).policy.response.status = .range := by decide

/-- R156: a lifetime of 0 is taken as 1 and one above 32 as 32. -/
theorem test_lifetime : parseLifetime 0 = 1 ∧ parseLifetime 33 = 32 := by decide

/-- R165: the built-in alert mask is every kind but EXCESS and LAPSE. -/
theorem test_alert_mask : builtInAlertMask = 0x19F := by decide

/-- R182: a soft reset moves the epoch and answers OK. -/
theorem test_soft_reset :
    (after (.softReset []) (sending 0x61 ready)).link.epoch = 1 ∧
    (after (.softReset []) (sending 0x61 ready)).policy.response.status = .ok := by
  decide +kernel

/-- 12.4.3, R172: READ_STATUS data is 67 bytes in every load state. -/
theorem test_read_status : (after (.readStatus []) (sending 0x60 State.reset)).policy.response.data.length = 67 := by decide

/-- R172, 12.4.1: frames written out byte by byte; the byte after the request part is ignored. -/
theorem test_frames :
    linkFrame [0x01, 0x0C, 2, 9, 212, 32, 0x01, 0x20, 0x00, 0x07, 0, 4, 2, 14] =
      .burstReq 2 9 212 32 #v[0x01, 0x20, 0x00, 0x07, 0, 4, 2, 14] ∧
    linkFrame [0x02, 0x05, 3, 9, 200, 32, 4, 0xAA] = .burstClose 3 9 200 32 4 ∧
    linkFrame [0x06, 0x00] = .badFrame 6 0 ∧ linkFrame [0x02, 0x05, 3] = .shortFrame [0x02, 0x05, 3] := by decide

/-- R172: past the five bytes and the header of a link status the controller reads 0x00. -/
theorem test_read_past_the_response :
    (after (.readLinkStatus) ready).linkRead 9 = some [0x04, 0x00, 0x00, 0, 0, 0, 0, 0, 0] := by decide

/-- R175, 12.4.3: SET_LIFETIME written to 0x36 is taken; after a reset discards the write, its end takes nothing. -/
theorem test_policy_write :
    policyWrite [0x42, 40] = [.commandByteArrival 0x42, .setLifetime [40]] ∧
    (after (.setLifetime [40]) (after (.commandByteArrival 0x42) ready)).context.current.lifetime = 32 ∧
    (after (.setLifetime [40]) (after (.powerOn false false false) (after (.commandByteArrival 0x42) ready))).policy =
      ⟨none, ⟨.ok, []⟩, 0x36⟩ := by decide +kernel

/-! ### Witnesses: states and operands that meet a statement's hypotheses -/

theorem witness_serving (b : Byte) : (sending b ready).Serving b := ⟨rfl, rfl, rfl⟩

theorem witness_StepTakesFrontCommand : State.reset.pending = [] := rfl

theorem witness_UnservedPolicyCommandsChangeNothing :
    policyCommand (.setChain []) = some (0x40, 9, []) ∧ State.reset.rstHeld = false ∧
    ((sending 0x40 State.reset).policy.inFlight = some 0x40 ∧ State.reset.loader.load = .loading) ∧
    ((sending 0x40 ready).policy.inFlight = some 0x40 ∧ ready.loader.load = .ready ∧ ([] : List Byte).length ≠ 9) ∧
    ready.policy.inFlight ≠ some 0x40 ∧ (sending 0x41 ready).policy.inFlight ≠ some 0x40 := by decide

theorem witness_PolicyPortOwnCommands :
    State.reset.rstHeld = false ∧ ([0] : List Byte) ≠ [] ∧ State.reset.policy.inFlight = none ∧
    (sending 0x17 State.reset).policy.inFlight = some 0x17 ∧ (sending 0x60 State.reset).policy.inFlight = some 0x60 ∧
    policyCommand (.softReset [1]) = some (0x61, 0, [1]) ∧ (0x17 : Byte) ∉ policyCommandBytes ∧
    held.rstHeld = true ∧ (0x37 : BitVec 7) ≠ State.reset.policy.address ∧
    State.reset.policyRead 0x36 3 = some [0, 0, 0] := by decide

theorem witness_AnswersHaveTheirLayout :
    ready.sequencer.state = .idle ∧ (sequencing .running).sequencer.state ≠ .idle ∧ ready.sequencer.pendingStart = none ∧
    ({ ready.sequencer with pendingStart := some ⟨1, 2, 3⟩ } : BackoffSequencer).pendingStart = some ⟨1, 2, 3⟩ := by
  decide

theorem witness_HeldPartStaysInPowerOnState :
    held.rstHeld = true ∧ (∀ a w k : Bool, Instr.readNotice ≠ .powerOn a w k) ∧ Instr.readNotice ≠ .rstNAssert ∧
    ∀ b : Bool, Instr.readNotice ≠ .ovlPinChange .warn b ∧ Instr.readNotice ≠ .ovlPinChange .crit b := by
  refine ⟨rfl, ?_, ?_, ?_⟩ <;> intros <;> simp

/-- The contents area of 13.1 with the defaults of 13.4 and this lifetime, section by section. -/
def defaultSections (lifetime : Byte) : List Byte :=
  ([0, 1, 2, 3, 4] : List Byte).flatMap (fun i => [i, 0x0B, 0xE0, 0, 0, 0xFD, 0x80])
    ++ ([0, 1, 2, 3] : List Byte).flatMap
      (fun c => [c, 0, 10, 4, 4, 64, 0x02, 0xD0, 0x05, 0x50, 0, 80, 0x02, 0xD0, 2])
    ++ ([0, 1, 2, 3, 4, 5, 6, 7] : List Byte).flatMap (fun k => [k, 0, 0])
    ++ [7, 7, 7, 7, 7]
    ++ ([0, 1, 2, 3, 4, 5] : List Byte).flatMap (fun i => [i, 0] ++ List.replicate 16 0 ++ [7])
    ++ (List.range 24).flatMap (fun i => [toByte i, 0, 1, 0, 0, 0, 0, 0])
    ++ [50, 0, 0, 0, 0]
    ++ ([0, 1, 2] : List Byte).flatMap (fun k => [k, 0, 0, 0])
    ++ ([0, 1, 2, 3] : List Byte).flatMap (fun c => [c, 1, 236, 80, 0x00, 0x18, 0xC3, 0xD8, 0x00])
    ++ [0x12, 0x4F, 0x80, lifetime, 0]
    ++ [32, 2] ++ [1, 0x06, 0x1A, 0x80, 200, 4] ++ [10, 3, 2, 212] ++ [0x01, 0x9F]

/-- Bytes packed two to a word, most significant first. -/
def packed : List Byte → List Word16
  | hi :: lo :: rest => (hi ++ lo) :: packed rest
  | _ => []

/-- An image of these contents with a checksum word. -/
def imageOf (contents : List Byte) (sum : Word16) : List Word16 :=
  [0xA410, 254] ++ packed contents ++ [sum]

/-- R178, R180: an image of the defaults is usable and gives them; one with a lifetime of 40 is clamped to 32. -/
theorem test_image_of_defaults :
    judgeImage (imageOf (defaultSections 6) 0xF322) = some Contents.builtIn ∧
    (judgeImage (imageOf (defaultSections 40) 0xD122)).map (·.context.lifetime) = some 32 := by decide +kernel

/-- Three words that pass the word count and the sum, followed by zeros. -/
def sumImage : List Word16 :=
  [0xA410, 254, 0x5AF2] ++ List.replicate 251 0

theorem witness_LoadCompletionAppliesContents_image :
    (([] : List Word16).getD 0 0xFFFF ≠ 0xA410) ∧ (([] : List Word16).getD 1 0xFFFF ≠ 254) ∧
    ((List.range 254).map fun i => (([0xA410, 254] : List Word16).getD i 0xFFFF).toNat).sum % 65536 ≠ 0 ∧
    sumImage.getD 0 0xFFFF = 0xA410 ∧ sumImage.getD 1 0xFFFF = 254 ∧
    ((List.range 254).map fun i => (sumImage.getD i 0xFFFF).toNat).sum % 65536 = 0 := by decide +kernel

theorem witness_LoadCompletionAppliesContents :
    State.reset.rstHeld = false ∧ State.reset.loader.load = .loading ∧
    (judgeImage []).isSome = false ∧ (judgeImage (imageOf (defaultSections 6) 0xF322)).isSome = true := by
  decide +kernel

/-- A LOADING part under WARN with a chain that the defaults trip and a pool sum above the new limit. -/
def loadingTripped : State :=
  let s := chainAt 1400 .normal
  { s with
    loader := State.reset.loader
    grants := { s.grants with poolSum := 700000 }
    supply := { s.supply with applied := .warn } }

theorem witness_LoadCompletionAppliesContents_notices :
    loadingTripped.rstHeld = false ∧ loadingTripped.loader.load = .loading ∧
    (600000 ≠ loadingTripped.supply.limit ∧ 600000 < loadingTripped.grants.poolSum) ∧
    loadingTripped.thermal.chains[0].state = .normal ∧
    reevaluated Contents.builtIn.coeffs[0] loadingTripped.thermal.chains[0].estimate .normal = .tripped := by
  decide +kernel

theorem witness_SoftResetRestoresRetainedContents :
    (sending 0x61 ready).Serving 0x61 ∧ (sending 0x61 ready).loader.retained = some Contents.builtIn ∧
    (after (.softReset []) (sending 0x61 ready)).thermal.trippedMask = 0 ∧
    ∀ c : Chain, ready.thermal.chains[c].state ≠ .tripped := by
  refine ⟨⟨rfl, rfl, rfl⟩, rfl, ?_, ?_⟩ <;> decide +kernel

/-- A READY part with the CRIT pin asserted and a chain that the retained thresholds trip, both triggers enabled. -/
def restoring : State :=
  let s := chainAt 1400 .normal
  { sending 0x61 s with
    supply := { s.supply with critLine := ⟨true, false, none⟩ }
    loader := ⟨.ready, .imageUsed, some { Contents.builtIn with context := { Context.builtIn with triggers := 3 } }⟩ }

theorem witness_SoftResetRestoresRetainedContents_triggers :
    restoring.Serving 0x61 ∧ restoring.tripEntries (after (.softReset []) restoring) = [0] ∧
    (after (.softReset []) restoring).supply.applied = .crit ∧
    (after (.softReset []) restoring).events.latch = some .overloadCrit := by
  refine ⟨⟨rfl, rfl, rfl⟩, ?_⟩; decide +kernel

theorem witness_StoppedTimersDoNothing :
    State.reset.rstHeld = false ∧ ({ State.reset.windows with timer := none } : WindowUnit).timer = none ∧
    State.reset.thermal.timer = none ∧ State.reset.scanner.timer = none ∧ State.reset.sequencer.timer = none ∧
    State.reset.classifier.timer = none ∧ (State.reset.supply.line .warn).debounce = none ∧
    State.reset.supply.hold = none ∧ (∀ g ∈ (opened [record 1]).grants.chains[0].opened, g.tag ≠ 2) ∧
    ready.loader.load = .ready := by decide

theorem witness_LinearPowerProperties :
    49 ≤ (49 : Fin 255).val ∧ 120 ≤ (120 : Fin 244).val ∧ 192 ≤ (192 : Fin 256).val := by decide

theorem witness_InverseLookupIsLargestCode :
    (0 : Int) < 1 ∧ (2492416 : Int) ≤ 2492416 ∧ ((1 : Int) ≤ 1 ∧ (1 : Int) < 2492416) ∧
    ((1 : Int) ≤ 2492415 ∧ (2492415 : Int) < 2492416) ∧
    (linv 1 = some 11 ∧ 11 ≤ 255 ∧ (linearPower 11 : Int) ≤ 1) := by decide +kernel

theorem witness_ChargesLoseNoProduct :
    let w : WindowChain := ⟨[⟨0, false⟩, ⟨4294967295, true⟩], 4294967295, 63, 0⟩
    w.residue < 64 ∧ (192 ≤ 192 ∧ 192 ≤ 255) ∧
    (w.ring[0]? = some ⟨0, false⟩ ∧ 0 ≤ 4294967295 ∧ w.heatIn ≤ 4294967295) ∧
    (linearPower 200 * 0 + w.residue) / 64 = 0 ∧
    (0 < (linearPower 200 * 32 + w.residue) / 64 ∧ 0 + (linearPower 200 * 32 + w.residue) / 64 < 4294967295) ∧
    (w.ring[1]? = some ⟨4294967295, true⟩ ∧ 0 < (linearPower 200 * 32 + w.residue) / 64 ∧
      4294967295 ≤ 4294967295 + (linearPower 200 * 32 + w.residue) / 64) := by decide

theorem witness_RequestsRefusedOrDisabled :
    let off : State := { ready with
      context := { ready.context with current := { ready.context.current with
        chains := ready.context.current.chains.set 0 ⟨false, 236, 80, 0⟩ } } }
    ready.rstHeld = false ∧ 3 < (4 : Byte).toNat ∧ (0 : Byte).toNat = (0 : Chain).val ∧ (3 : Byte).toNat = (3 : Chain).val ∧
    2 ≤ (opened [record 1, record 2]).grants.chains[0].opened.length ∧
    ((opened [record 1]).grants.chains[0].opened.length < 2 ∧
      ∃ g ∈ (opened [record 1]).grants.chains[0].opened, g.tag = 1) ∧
    (off.grants.chains[0].opened.length < 2 ∧ (∀ g ∈ off.grants.chains[0].opened, g.tag ≠ 1) ∧
      off.context.current.chains[0].enabled = false) := by decide

theorem witness_CandidateIsGrantedOrWithheld :
    let s := opened [record 1]
    let l := s.ceilings 0 ClassEntry.builtIn 32
    s.rstHeld = false ∧ (32 : Byte) ≠ 0 ∧ s.grants.chains[0].opened.length < 2 ∧
    (∀ g ∈ s.grants.chains[0].opened, g.tag ≠ 2) ∧ s.context.current.chains[0].enabled = true ∧
    s.thermal.chains[0].state ≠ .tripped ∧ (s.classify (plain 0)).2 = ClassEntry.builtIn ∧
    ((floorStep l 80 0).code = some 80 ∧ s.context.current.chains[0].minimum ≤ 80) ∧
    codeBelow (floorStep l 79 0).code s.context.current.chains[0].minimum = true := by decide +kernel

/-- A part whose chain 0 is TRIPPED and whose class 7 has a floor of 180 and the trip-pass flag. -/
def passing : State :=
  { chainAt 1400 .tripped with
    classifier := { ready.classifier with classes := ready.classifier.classes.set 7 ⟨180, false, true⟩ } }

/-- The same with a pool limit of 0, so that its hard ceiling is none. -/
def starved : State :=
  { passing with supply := { passing.supply with limit := 0 } }

theorem witness_TrippedChainNeedsTripPass :
    (let s := chainAt 1400 .tripped;
      s.rstHeld = false ∧ (32 : Byte) ≠ 0 ∧ s.grants.chains[0].opened.length < 2 ∧
      (∀ g ∈ s.grants.chains[0].opened, g.tag ≠ 1) ∧ s.context.current.chains[0].enabled = true ∧
      s.thermal.chains[0].state = .tripped ∧ (s.classify (plain 0)).2.tripPass = false) ∧
    (let k := (passing.classify (plain 0)).2;
      passing.thermal.chains[0].state = .tripped ∧ k.tripPass = true ∧ 0 < k.floor ∧
      (passing.ceilings 0 k 32).hard = some 236 ∧
      passing.context.current.chains[0].minimum ≤ min (min 212 k.floor) 236 ∧
      min (min 79 k.floor) 236 < passing.context.current.chains[0].minimum) ∧
    (starved.ceilings 0 (starved.classify (plain 0)).2 32).hard = none ∧
    starved.thermal.chains[0].state = .tripped := by decide +kernel

theorem witness_IssuedGrantsObeyTheCeilings :
    ready.grants.chains[0].opened.length <
      (after (.burstReq (toByte 0) 1 212 32 (plain 0)) ready).grants.chains[0].opened.length ∧
    State.reset.grants.chains[0].opened.length <
      (after (.burstReq (toByte 0) 1 212 32 (plain 0)) State.reset).grants.chains[0].opened.length ∧
    (mismatchAt ⟨.mismatched, 0, 0⟩).grants.chains[0].opened.length <
      (after (.burstReq (toByte 0) 1 255 32 (plain 0)) (mismatchAt ⟨.mismatched, 0, 0⟩)).grants.chains[0].opened.length ∧
    passing.grants.chains[0].opened.length <
      (after (.burstReq (toByte 0) 1 212 32 (plain 0)) passing).grants.chains[0].opened.length := by decide +kernel

theorem witness_CandidateHasALimitingCeiling :
    let l : Ceilings := ⟨some 236, some 100, some 255, some 255, some 255, some 255, some 255⟩
    let n : Ceilings := { l with pool := none, win := none }
    (n.pool = none ∧ n.hard = none ∧ n.soft = none ∧ (floorStep n 212 200).code = none ∧
      limitingFactor n 212 0 (floorStep n 212 0) = .pool ∧ limitingFactor n 212 200 (tripPath n 212 200) = .pool) ∧
    ((some 100 : Option Nat) ≠ some 212 ∧ 100 < min 200 212 ∧ min 100 212 ≤ 100) ∧
    minCode (minCode (some 212) l.soft) l.hard = some 100 ∧ (floorStep l 212 200).code = some 200 ∧
    limitingFactor l 212 200 (floorStep l 212 200) = .floor ∧ limitingFactor l 212 0 (floorStep l 212 0) = .thermal := by
  decide

theorem witness_CeilingsAreFormedFromTheFigures :
    ready.thermal.chains[0].state = .normal ∧ (chainAt 800 .warm).thermal.chains[0].state = .warm ∧
    (chainAt 1400 .tripped).thermal.chains[0].state = .tripped ∧ (chainAt 0 .unknown).thermal.chains[0].state = .unknown ∧
    ((sequencing .running).sequencer.InRun ∧
      (sequencing .running).sequencer.program[(sequencing .running).sequencer.step].mask.getLsbD 0 = true ∧
      ClassEntry.builtIn.exempt = false) ∧
    (¬ready.sequencer.InRun) ∧
    (ready.context.current.chains[0].windowLimit - (415488000 + 0) = 0) ∧
    (({ ready.supply with limit := 0 } : SupplyPool).limit ≤ ready.grants.poolSum) ∧
    ready.grants.poolSum < ready.supply.limit ∧
    (mismatchAt ⟨.mismatched, 0, 0⟩).mismatch.chains[0].state = .mismatched ∧
    ready.mismatch.chains[0].state = .clear ∧ State.reset.loader.load = .loading ∧ ready.loader.load = .ready := by
  unfold BackoffSequencer.InRun; decide

theorem witness_ReadChainReportsAndClears :
    (∀ b : Byte, (sending b ready).Serving b) ∧ (3 : Byte).toNat = (3 : Chain).val ∧ 3 < (4 : Byte).toNat ∧ 1 < (2 : Byte).toNat :=
  ⟨witness_serving, rfl, by decide, by decide⟩

theorem witness_UnknownCloseIsCountedLate :
    ready.rstHeld = false ∧ (3 : Byte).toNat = (3 : Chain).val ∧
    (∀ g ∈ (opened [record 1]).grants.chains[0].opened, g.tag ≠ 2) ∧ 3 < (4 : Byte).toNat := by decide

theorem witness_CloseOfOldestRecord :
    let s := opened [record 1, record 2]
    s.rstHeld = false ∧ s.grants.chains[0].opened = record 1 :: [record 2] ∧ (record 1).tag = 1 ∧
    min (0 : Byte).toNat 64 = 0 ∧ 1 ≤ min (1 : Byte).toNat 64 ∧
    (1 ≤ min (33 : Byte).toNat 64 ∧ (record 1).duration < min (33 : Byte).toNat 64) ∧
    ¬((record 1).code < (200 : Byte).toNat ∨ (record 1).duration < min (32 : Byte).toNat 64) := by decide

theorem witness_OutOfOrderCloseLapsesTheOlder :
    let s := opened [record 1, record 2]
    s.rstHeld = false ∧ s.grants.chains[0].opened = [record 1, record 2] ∧ (record 1).tag ≠ 2 ∧ (record 2).tag = 2 := by
  decide

theorem witness_LapseChargesAsGranted :
    let s := opened [record 1, record 2]
    s.rstHeld = false ∧ s.grants.chains[0].opened = [record 1] ++ record 2 :: [] ∧
    ∀ x ∈ [record 1], x.tag ≠ (record 2).tag := by decide

theorem witness_LinkResetEmptiesListsAndNotices : (opened [record 1, record 2]).rstHeld = false := rfl

theorem witness_ReflectCodesMoveTheMismatchState :
    let x := ready.mismatch.settings
    ready.mismatch.chains[0].state = .clear ∧ 9 < x.threshold ∧
    (x.threshold ≤ 10 ∧ min (0 + 1) 15 < x.runCount) ∧
    ((mismatchAt ⟨.clear, 2, 0⟩).mismatch.chains[0].state = .clear ∧ x.runCount ≤ min (2 + 1) 15) ∧
    ((mismatchAt ⟨.mismatched, 0, 2⟩).mismatch.chains[0].state = .mismatched ∧ max (x.threshold - x.release) 1 ≤ 8 ∧
      7 < max (x.threshold - x.release) 1 ∧ x.runCount ≤ min (2 + 1) 15) ∧
    (({ Context.builtIn with triggers := 4 } : Context).triggers.getLsbD 2 = true ∧ ready.events.latch = none ∧
      ready.loader.load = .ready ∧ ready.context.current.triggers.getLsbD 2 = false) ∧
    ((mismatchAt ⟨.mismatched, 0, 1⟩).mismatch.chains[0].underRun = 1 ∧ min (1 + 1) 15 < x.runCount) := by decide

theorem witness_BucketExpiryAndWindowShape :
    (∀ b : Byte, (sending b ready).Serving b) ∧ ready.windows.timer.isSome = true ∧ (8 ≤ (8 : Byte).toNat ∧ (32 : Byte).toNat ≤ 32) ∧
    ((3 : Byte).toNat, BucketPeriod.ms250, 250000) ∈
      [(0, BucketPeriod.ms31, 31250), (1, .ms62, 62500), (2, .ms125, 125000), (3, .ms250, 250000)] ∧
    (7 : Byte).toNat < 8 ∧ 32 < (33 : Byte).toNat ∧ 3 < (4 : Byte).toNat :=
  ⟨witness_serving, by decide⟩

theorem witness_ModelStepMovesEveryEstimate : ready.rstHeld = false ∧ ready.thermal.timer.isSome = true := by decide

/-- A part whose chain 0 is WARM above its trip point, with the TRIP trigger enabled. -/
def tripping : State :=
  { chainAt 1400 .warm with
    context := { ready.context with current := { ready.context.current with triggers := 2 } } }

theorem witness_TripsAreAnnouncedOnce :
    tripping.rstHeld = false ∧ tripping.thermal.timer.isSome = true ∧ tripping.events.records[2].count ≤ 255 ∧
    tripping.thermal.chains[0].state ≠ .tripped ∧ (after .modelStep tripping).thermal.chains[0].state = .tripped ∧
    tripping.triggerPasses .trip = true ∧ ready.triggerPasses .trip = false ∧
    (after .modelStep ready).thermal.trippedMask = 0 := by decide +kernel

theorem witness_SetThermalWritesCoefficients :
    (∀ b : Byte, (sending b ready).Serving b) ∧ (3 : Byte).toNat = (3 : Chain).val ∧
    ((3 : Byte).toNat, StepPeriod.ms500, 500000) ∈
      [(0, StepPeriod.ms62, 62500), (1, .ms125, 125000), (2, .ms250, 250000), (3, .ms500, 500000)] ∧
    (max (-640) (min 2400 ((0x02 : Byte) ++ (0xD0 : Byte)).toInt) <
      max (-640) (min 2400 ((0x02 : Byte) ++ (0xD1 : Byte)).toInt)) ∧
    (max (-640) (min 2400 ((0x7F : Byte) ++ (0xFF : Byte)).toInt) ≤
      max (-640) (min 2400 ((0x09 : Byte) ++ (0x60 : Byte)).toInt)) ∧
    3 < (4 : Byte).toNat :=
  ⟨witness_serving, by decide⟩

theorem witness_ChainSamplesBlendAndLeaveUnknown :
    let k := ThermalCoeffs.builtIn
    k.knee < k.trip ∧ (719 : Int) < k.knee ∧ (k.knee ≤ 1359 ∧ (1359 : Int) < k.trip) ∧ k.trip ≤ 1360 ∧
    k.trip - k.hysteresis ≤ 1280 ∧ ((1279 : Int) < k.trip - k.hysteresis ∧ k.knee ≤ 1279) ∧
    (chainAt 400 .unknown).thermal.chains[0].validRun = 0 ∧
    1 ≤ ({ (chainAt 400 .unknown).thermal.chains[0] with validRun := 1 } : ThermalChain).validRun ∧
    ((719 : Int) < 800 - (80 : Nat) ∧ (719 : Int) < 720) := by decide

theorem witness_BoardSamplesSeedThenFollow :
    ready.thermal.board.seedPending = true ∧
    ({ ready.thermal.board with seedPending := false } : BoardRecord).seedPending = false := by decide

theorem witness_ConversionJudgesDeliversAndRotates :
    let v : Conversion := ⟨0, Calibration.builtIn⟩
    ready.rstHeld = false ∧ ready.scanner.timer = some 2000 ∧ ready.scanner.inFlight = some v ∧
    ((1 : BitVec 12) ≠ 0 ∧ (1 : BitVec 12) ≠ 4095) ∧ ((4094 : BitVec 12) ≠ 0 ∧ (4094 : BitVec 12) ≠ 4095) ∧
    (¬((0 : BitVec 12) ≠ 0 ∧ (0 : BitVec 12) ≠ 4095) ∧ ready.scanner.inputs[v.input].invalidRun ≠ 3) ∧
    ({ ready.scanner.inputs[v.input] with invalidRun := 3 } : SensorRecord).invalidRun = 3 := by decide

theorem witness_TablesAndSettingsAreWritten :
    (∀ b : Byte, (sending b ready).Serving b) ∧ (4 : Byte).toNat = (4 : Input).val ∧ 4 < (5 : Byte).toNat ∧ (7 : Byte).toNat = (7 : Fin 8).val ∧
    (3 : Byte).toNat ≤ 3 ∧ 7 < (8 : Byte).toNat ∧ 3 < (4 : Byte).toNat :=
  ⟨witness_serving, by decide⟩

theorem witness_ClassificationStages :
    let s : State := { ready with
      classifier := { ready.classifier with
        matchers := ready.classifier.matchers.set 1
          ⟨.enabled, Vector.replicate 8 0, Vector.replicate 8 0, 3, none⟩ } }
    State.reset.loader.load = .loading ∧ s.loader.load = .ready ∧
    (s.classifier.matchers[1].state = .enabled ∧
      (∀ n : Fin 8, (plain 0)[n] &&& s.classifier.matchers[1].mask[n] =
        s.classifier.matchers[1].value[n] &&& s.classifier.matchers[1].mask[n]) ∧
      s.classifier.matchers[0].state ≠ .enabled) ∧
    (∀ i : Fin 6, ready.classifier.matchers[i].state ≠ .enabled) ∧
    ((plain 5)[0].toNat = (4 : Fin 5).val + 1) ∧ (plain 0)[0] = 0 ∧ 5 < (plain 6)[0].toNat := by decide

theorem witness_MatcherWritesPassThroughWriting :
    (∀ b : Byte, (sending b ready).Serving b) ∧ (5 : Byte).toNat = (5 : Fin 6).val ∧ (1 : Byte).toNat ≤ 1 ∧ (7 : Byte).toNat = (7 : Fin 8).val ∧
    ready.classifier.writing = false ∧ writing.classifier.writing = true ∧ 5 < (6 : Byte).toNat ∧
    1 < (2 : Byte).toNat ∧ 7 < (8 : Byte).toNat :=
  ⟨witness_serving, by decide⟩

theorem witness_MatcherWritesPassThroughWriting_completion :
    writing.rstHeld = false ∧ writing.classifier.timer.isSome = true ∧ writing.MatcherLaw ∧
    writing.classifier.matchers[5].pendingEntry =
      some ⟨true, Vector.replicate 8 0, Vector.replicate 8 0, 3⟩ ∧
    writing.classifier.matchers[0].pendingEntry = none := by
  unfold State.MatcherLaw; decide

theorem witness_StartScheduleByState :
    (∀ b : Byte, (sending b ready).Serving b) ∧ (23 : Byte).toNat = (23 : Fin 24).val ∧ 23 < (24 : Byte).toNat ∧ ready.sequencer.state = .idle ∧
    (sequencing .starting).sequencer.state = .starting ∧
    ((sequencing .holding).sequencer.InRun ∧ (sequencing .holding).sequencer.pendingStart = none) ∧
    ({ (sequencing .frozen).sequencer with pendingStart := some ⟨1, 1, 0⟩ } : BackoffSequencer).InRun :=
  ⟨witness_serving, rfl, by decide, rfl, rfl, ⟨.inr (.inr rfl), rfl⟩, .inr (.inl rfl)⟩

theorem witness_BoundaryBeginsTheRun :
    ready.rstHeld = false ∧ ready.sequencer.timer.isSome = true ∧ ready.sequencer.state = .idle ∧
    (sequencing .frozen).sequencer.state = .frozen ∧
    ((sequencing .starting).sequencer.state = .starting ∧ (sequencing .starting).sequencer.frame = false) := by decide

theorem witness_RunningBoundaryMovesBackoff :
    let q := (sequencing .running).sequencer
    let last : BackoffSequencer := { q with k := 1 }
    let wrap : BackoffSequencer := { q with k := 1, step := 1, repeatsLeft := 1 }
    let bounded : BackoffSequencer := { q with settings := { q.settings with breakpoint := 2 } }
    (sequencing .running).rstHeld = false ∧ q.timer.isSome = true ∧ q.state = .running ∧ q.runCount ≤ 65535 ∧
    q.settings.breakpoint = 0 ∧ q.k + 1 ≠ q.program[q.step].dwell ∧
    (last.k + 1 = last.program[last.step].dwell ∧ last.step ≠ last.run.stop) ∧
    (q.k < q.program[q.step].dwell ∧ bounded.runCount < min bounded.settings.breakpoint 65535 ∧
      min (bounded.runCount + 1) 65535 ≠ bounded.settings.breakpoint) ∧
    (wrap.k + 1 = wrap.program[wrap.step].dwell ∧ wrap.step = wrap.run.stop ∧ 0 < wrap.repeatsLeft) := by decide

theorem witness_RunEndsInHoldingOrIdle :
    let q : BackoffSequencer := { (sequencing .running).sequencer with k := 1, step := 1 }
    let r : BackoffSequencer := { (sequencing .running).sequencer with settings := ⟨50, 1, 2, 0⟩ }
    (sequencing .running).rstHeld = false ∧ q.timer.isSome = true ∧
    (q.state = .running ∧ q.runCount ≤ 65535 ∧ q.k + 1 = q.program[q.step].dwell ∧ q.step = q.run.stop ∧
      q.repeatsLeft = 0 ∧ q.pendingStart = none ∧ q.settings.holdAfter = 0) ∧
    (r.settings.breakpoint ≠ 0 ∧ min (r.runCount + 1) 65535 = r.settings.breakpoint ∧ 0 < r.settings.holdAfter) ∧
    ({ q with runCount := 65535 } : BackoffSequencer).runCount ≤ 65535 ∧
    ({ q with pendingStart := some ⟨0, 0, 0⟩ } : BackoffSequencer).pendingStart = some ⟨0, 0, 0⟩ ∧
    ((sequencing .holding).sequencer.state = .holding ∧ (sequencing .holding).sequencer.frame = false ∧
      1 < ({ q with holdCount := 2 } : BackoffSequencer).holdCount ∧
      ({ q with holdCount := 1 } : BackoffSequencer).holdCount = 1) := by decide

theorem witness_FreezeThawAbort :
    (∀ (b : Byte) (x : SequencerState), (sending b (sequencing x)).Serving b) ∧ (sequencing .running).sequencer.state = .running ∧
    (sequencing .holding).sequencer.state = .holding ∧ ready.sequencer.state = .idle ∧
    (sequencing .starting).sequencer.state = .starting ∧
    (after (.freeze []) (sending 0x25 (sequencing .running))).sequencer.state = .frozen ∧
    (after (.freeze []) (sending 0x25 (sequencing .running))).sequencer.remembered = some .running :=
  ⟨fun _ _ => ⟨rfl, rfl, rfl⟩, by decide⟩

theorem witness_SequencerTablesAreWritten :
    let q := (sequencing .running).sequencer
    (∀ b : Byte, (sending b ready).Serving b) ∧ (23 : Byte).toNat = (23 : Fin 24).val ∧
    ((2 : Byte).toNat, Ramp.accel) ∈ [(0, Ramp.hold), (1, Ramp.slope), (2, Ramp.accel)] ∧ (15 : Byte).toNat ≤ 15 ∧
    (q.state ≠ .idle ∧ q.run.covers 1 = true) ∧ q.run.covers 23 = false ∧
    (RunParams.mk 20 2 0).covers 23 = true ∧ (2 : Byte).toNat = (2 : Fin 3).val ∧
    23 < (24 : Byte).toNat ∧ 2 < (3 : Byte).toNat ∧ 15 < (16 : Byte).toNat ∧ 1 < (2 : Byte).toNat ∧ (1 : Byte) ≠ 0 :=
  ⟨witness_serving, by decide⟩

theorem witness_TriggerGateLetsOneStartPass :
    tripping.context.current.triggers.getLsbD 1 = true ∧ tripping.events.latch = none ∧
    tripping.loader.load = .ready ∧ (sequencing .holding).sequencer.InRun ∧
    (sequencing .starting).sequencer.state = .starting ∧ ready.sequencer.state = .idle ∧ ¬ready.context.current.triggers.getLsbD 1 = true := by
  unfold BackoffSequencer.InRun; decide

theorem witness_LinesAreDebounced :
    let m : LineMonitor := ⟨true, false, some 200⟩
    ready.rstHeld = false ∧ (m.pin ≠ false ∧ false = m.taken) ∧
    ((ready.supply.line .warn).pin ≠ true ∧ true ≠ (ready.supply.line .warn).taken ∧
      ready.supply.settings.debounce ≠ 0) ∧
    ({ ready.supply.settings with debounce := 0 } : OverloadSettings).debounce = 0 ∧ m.debounce.isSome = true := by
  decide

theorem witness_LevelsRiseAtOnceAndFallAfterTheHold :
    (levels .nominal true false).supply.applied.code < (levels .nominal true false).supply.target.code ∧
    (levels .warn true true).supply.applied.code < (levels .warn true true).supply.target.code ∧
    (({ Context.builtIn with triggers := 1 } : Context).triggers.getLsbD 0 = true ∧
      (levels .warn true true).events.latch = none ∧ (levels .warn true true).loader.load = .ready) ∧
    (levels .warn true false).supply.target.code = (levels .warn true false).supply.applied.code ∧
    (levels .crit true false).supply.target.code < (levels .crit true false).supply.applied.code ∧
    (levels .crit true false).supply.hold = none ∧ (levels .crit true false).supply.settings.hold ≠ 0 ∧
    ({ (levels .crit true false).supply.settings with hold := 0 } : OverloadSettings).hold = 0 ∧
    (({ (levels .crit true false).supply with hold := some 2000000 } : SupplyPool).hold.isSome = true ∧
      (levels .crit true false).rstHeld = false) := by decide

theorem witness_SetChainWritesFourFields :
    (∀ b : Byte, (sending b ready).Serving b) ∧ (3 : Byte).toNat = (3 : Chain).val ∧ (1 : Byte).toNat ≤ 1 ∧ (80 : Byte).toNat ≤ (80 : Byte).toNat ∧
    3 < (4 : Byte).toNat ∧ 1 < (2 : Byte).toNat ∧ (79 : Byte).toNat < (80 : Byte).toNat :=
  ⟨witness_serving, by decide⟩

theorem witness_ContextFieldsAreWritten :
    (∀ b : Byte, (sending b ready).Serving b) ∧ (7 : Byte).toNat ≤ 7 ∧ 7 < (8 : Byte).toNat ∧ State.reset.rstHeld = false ∧
    State.reset.loader.load = .loading :=
  ⟨witness_serving, by decide⟩

theorem witness_ContextStackIsLastInFirstOut :
    let full := List.replicate 4 Context.builtIn
    (∀ b : Byte, (sending b ready).Serving b) ∧ ready.context.stack.length < 4 ∧ 4 ≤ full.length ∧ ready.context.stack = [] ∧
    (after (.pushContext []) (sending 0x44 ready)).context.stack = Context.builtIn :: [] ∧
    (after (.popContext []) (after (.commandByteArrival 0x45) (after (.pushContext []) (sending 0x44 ready)))).context =
      ready.context :=
  ⟨witness_serving, by decide, by decide, rfl, rfl, rfl⟩

theorem witness_EventRecordsAndAlertLine :
    (∀ b : Byte, (sending b ready).Serving b) ∧ (0 : Fin 9) ≠ EventKind.trip.index ∧ (1 : Byte).toNat * 256 + (255 : Byte).toNat ≤ 0x1FF ∧
    0x1FF < (2 : Byte).toNat * 256 + (0 : Byte).toNat ∧ Nat.testBit 4 2 = true ∧ Nat.testBit 4 1 = false ∧
    ({ ready.events with latch := some .trip } : EventLatch).latch = some .trip ∧ ready.events.latch = none :=
  ⟨witness_serving, by decide⟩

theorem witness_NoticesCoalesceAndAreReadOldestFirst :
    let n : Notice := ⟨.poolCut, 1, 2⟩
    let x : Notice := ⟨.tripChange, 1, 1⟩
    (∀ y ∈ [x], y.kind ≠ n.kind) ∧ (⟨.poolCut, 2, 3⟩ : Notice).kind = n.kind ∧ x.kind ≠ n.kind ∧
    ready.rstHeld = false ∧ ready.notices = [] ∧
    (({ ready with notices := [x, n] } : State).rstHeld = false ∧
      ({ ready with notices := [x, n] } : State).notices = x :: [n]) := by decide

theorem witness_LinkStatusAndBadFrames :
    ready.rstHeld = false ∧ (13 : Byte) ≠ 0x0C ∧ (4 : Byte) ≠ 0x05 ∧ ((3 : Byte) = 0x03 ∧ (1 : Byte) ≠ 0) ∧
    5 < (6 : Byte).toNat ∧ requestIncomplete [0x01, 12, 0] = true ∧ held.rstHeld = true ∧
    ((0x01 : Byte), (13 : Byte).toNat) ∉ ([(0x01, 12), (0x02, 5), (0x03, 0), (0x04, 0), (0x05, 0)] : List (Byte × Nat)) := by
  decide

/-! The laws: one state that meets them and steps, with something to keep. -/

/-- A READY part with a record open, a lapse waiting. -/
def lapsing : State :=
  { opened [record 1, record 2] with pending := [.lapse 0 1] }

theorem witness_laws_step :
    step lapsing = .next (after (.lapse 0 1) { lapsing with pending := [] }) ∧ lapsing.pending ≠ [] :=
  ⟨rfl, by decide⟩

theorem witness_StepKeepsGrantLaw : lapsing.GrantLaw := by
  unfold State.GrantLaw GrantChain.Lawful; decide +kernel

theorem witness_StepKeepsWindowLaw : lapsing.WindowLaw := by
  unfold State.WindowLaw WindowChain.Lawful WindowShape.Lawful; decide +kernel

theorem witness_StepKeepsTemperatureLaw : lapsing.TemperatureLaw := by
  unfold State.TemperatureLaw ThermalCoeffs.InTempRange inTempRange
  refine ⟨?_, ?_, ?_, ?_, ?_, ?_⟩
  · decide +kernel
  · decide +kernel
  · decide +kernel
  · decide +kernel
  · rintro v ⟨⟩; decide
  · decide +kernel

/-- A READY part in RUNNING at a framed step, a boundary waiting. -/
def stepping : State :=
  { sequencing .running with
    pending := [.periodBoundary]
    sequencer := { (sequencing .running).sequencer with frame := true } }

theorem witness_StepKeepsSequencerLaw :
    stepping.SequencerLaw ∧ step stepping = .next (after .periodBoundary { stepping with pending := [] }) := by
  refine ⟨?_, rfl⟩
  unfold State.SequencerLaw LawfulProgram BackoffSequencer.InRun BackoffSequencer.Stepping; decide +kernel

theorem witness_StepKeepsContextLaw : lapsing.ContextLaw := by
  unfold State.ContextLaw Context.Lawful; decide +kernel

theorem witness_StepKeepsSupplyLaw : lapsing.SupplyLaw := by
  unfold State.SupplyLaw; decide

theorem witness_StepKeepsNoticeMatcherAndCounterLaws :
    lapsing.NoticeLaw ∧ lapsing.MatcherLaw ∧ lapsing.CounterLaw := by
  unfold State.NoticeLaw State.MatcherLaw State.CounterLaw; decide +kernel

end Sys2Proof.Tests
end

section
/-! Proofs about chapter 1: the linear power (R4, R5) and the inverse lookup (R6). -/

namespace Sys2Proof.Machine

/-! ### The linear power (R4, R5)

The product M[i] × 2^k of R4's second step doubles exactly from one octave to the next, so a fact about all
codes comes down to the twelve positions of one octave, and the shift of step 3 is a monotone division. -/

/-- The product of R4's step 2, before step 3 discards its ten low bits. -/
def scaledPower (p : Nat) : Nat :=
  mTable.getD (p % 12) 0 * 2 ^ (p / 12)

theorem linearPower_eq_scaledPower_div (p : Nat) : linearPower p = scaledPower p / 1024 := rfl

theorem scaledPower_add_octaves (p k : Nat) : scaledPower (p + 12 * k) = 2 ^ k * scaledPower p := by
  have position : (p + 12 * k) % 12 = p % 12 := Nat.add_mul_mod_self_left p 12 k
  have octave : (p + 12 * k) / 12 = p / 12 + k := Nat.add_mul_div_left p k (by decide)
  rw [scaledPower, position, octave, pow_add, scaledPower]
  ring

theorem scaledPower_le_succ (p : Nat) : scaledPower p ≤ scaledPower (p + 1) := by
  have one_octave : ∀ i : Fin 12, scaledPower i.val ≤ scaledPower (i.val + 1) := by decide
  obtain ⟨i, k, rfl⟩ : ∃ (i : Fin 12) (k : Nat), p = i.val + 12 * k :=
    ⟨⟨p % 12, Nat.mod_lt _ (by decide)⟩, p / 12, (Nat.mod_add_div p 12).symm⟩
  rw [Nat.add_right_comm, scaledPower_add_octaves, scaledPower_add_octaves]
  exact Nat.mul_le_mul_left _ (one_octave i)

/-- From code 49 on, neighbours lie at least one whole pu apart before the shift, so the shift cannot merge
them. -/
theorem scaledPower_add_pu_le_succ {p : Nat} (h : 49 ≤ p) : scaledPower p + 1024 ≤ scaledPower (p + 1) := by
  have one_octave : ∀ i : Fin 12, scaledPower (49 + i.val) + 1024 ≤ scaledPower (49 + i.val + 1) := by decide
  obtain ⟨i, k, rfl⟩ : ∃ (i : Fin 12) (k : Nat), p = 49 + i.val + 12 * k :=
    ⟨⟨(p - 49) % 12, Nat.mod_lt _ (by decide)⟩, (p - 49) / 12, by simp only; omega⟩
  rw [Nat.add_right_comm _ (12 * k) 1, scaledPower_add_octaves, scaledPower_add_octaves]
  calc 2 ^ k * scaledPower (49 + i.val) + 1024
      ≤ 2 ^ k * scaledPower (49 + i.val) + 2 ^ k * 1024 :=
        Nat.add_le_add_left (Nat.le_mul_of_pos_left _ (Nat.two_pow_pos k)) _
    _ = 2 ^ k * (scaledPower (49 + i.val) + 1024) := (Nat.mul_add ..).symm
    _ ≤ 2 ^ k * scaledPower (49 + i.val + 1) := Nat.mul_le_mul_left _ (one_octave i)

theorem linearPower_monotone : Monotone linearPower :=
  monotone_nat_of_le_succ fun p => Nat.div_le_div_right (scaledPower_le_succ p)

theorem linearPower_lt_succ {p : Nat} (h : 49 ≤ p) : linearPower p < linearPower (p + 1) := by
  have gap := scaledPower_add_pu_le_succ h
  simp only [linearPower_eq_scaledPower_div]
  omega

@[simp] theorem linearPower_zero : linearPower 0 = 1 := by decide

@[simp] theorem linearPower_top : linearPower 255 = 2492416 := by decide

/-- The octave relation: doubling before the shift can carry one discarded bit into the result. -/
theorem linearPower_add_twelve (p : Nat) :
    linearPower (p + 12) = 2 * linearPower p ∨ linearPower (p + 12) = 2 * linearPower p + 1 := by
  have doubled : scaledPower (p + 12) = 2 * scaledPower p := scaledPower_add_octaves p 1
  simp only [linearPower_eq_scaledPower_div]
  omega

/-- Ten octaves up the shift only takes back the ten doublings: no bits are discarded from code 120 on. -/
theorem linearPower_add_ten_octaves (p : Nat) : linearPower (p + 120) = scaledPower p := by
  have scaled : scaledPower (p + 120) = 1024 * scaledPower p := scaledPower_add_octaves p 10
  rw [linearPower_eq_scaledPower_div, scaled]
  exact Nat.mul_div_cancel_left _ (by decide)

theorem linearPower_add_twelve_of_exact {p : Nat} (h : 120 ≤ p) :
    linearPower (p + 12) = 2 * linearPower p := by
  obtain ⟨q, rfl⟩ := Nat.exists_eq_add_of_le' h
  rw [Nat.add_right_comm, linearPower_add_ten_octaves, linearPower_add_ten_octaves]
  exact scaledPower_add_octaves q 1

theorem linearPower_eq_of_exact {p : Nat} (h : 120 ≤ p) :
    linearPower p = mTable.getD (p % 12) 0 * 2 ^ (p / 12 - 10) := by
  obtain ⟨q, rfl⟩ := Nat.exists_eq_add_of_le' h
  have position : (q + 120) % 12 = q % 12 := by omega
  have octave : (q + 120) / 12 - 10 = q / 12 := by omega
  rw [linearPower_add_ten_octaves, position, octave, scaledPower]

theorem linearPower_mod_64 {p : Nat} (h : 192 ≤ p) : linearPower p % 64 = 0 := by
  obtain ⟨q, rfl⟩ := Nat.exists_eq_add_of_le' h
  have product : linearPower (q + 192) = 64 * scaledPower q :=
    (linearPower_add_ten_octaves (q + 72)).trans (scaledPower_add_octaves q 6)
  rw [product]
  exact Nat.mul_mod_right 64 _

/-- Settles O12, from the octave structure of the product M[i] × 2^k. -/
theorem linearPowerProperties : Obligations.LinearPowerProperties := by
  unfold Obligations.LinearPowerProperties
  refine ⟨linearPower_zero, linearPower_top, linearPower_top, ?order, ?strict, ?lowest, by decide, by decide,
    ?octave, ?exact, ?multiple⟩
  case order => exact fun p => linearPower_monotone (Nat.le_succ p.val)
  case strict => exact fun p h => linearPower_lt_succ h
  case lowest => decide
  case octave => exact fun p => linearPower_add_twelve p.val
  case exact => exact fun p h => ⟨linearPower_add_twelve_of_exact h, linearPower_eq_of_exact h⟩
  case multiple => exact fun p h => linearPower_mod_64 h

/-! ### The inverse lookup (R6) -/

theorem largestCodeUpTo_eq_none_iff (x : Int) (n : Nat) :
    largestCodeUpTo x n = none ↔ ∀ q ≤ n, x < linearPower q := by
  induction n with
  | zero => simp [largestCodeUpTo]
  | succ n ih =>
    rw [largestCodeUpTo]
    split
    next fits =>
      simp only [reduceCtorEq, false_iff, not_forall]
      exact ⟨n + 1, le_rfl, not_lt.mpr fits⟩
    next tooBig =>
      rw [ih]
      constructor
      · intro below q hq
        obtain rfl | hq := Nat.le_succ_iff_eq_or_le.mp hq
        · exact not_le.mp tooBig
        · exact below q hq
      · exact fun below q hq => below q (Nat.le_succ_of_le hq)

/-- The downward search answers the greatest code in its range whose linear power is at most `x`; no order of
the linear powers is needed for this. -/
theorem largestCodeUpTo_isGreatest {x : Int} {n p : Nat} (found : largestCodeUpTo x n = some p) :
    IsGreatest {q : Nat | q ≤ n ∧ (linearPower q : Int) ≤ x} p := by
  induction n with
  | zero =>
    obtain ⟨fits, rfl⟩ : (linearPower 0 : Int) ≤ x ∧ 0 = p := by simpa [largestCodeUpTo] using found
    exact ⟨⟨le_rfl, fits⟩, fun q hq => hq.1⟩
  | succ n ih =>
    rw [largestCodeUpTo] at found
    split at found
    next fits =>
      obtain rfl := Option.some.inj found
      exact ⟨⟨le_rfl, fits⟩, fun q hq => hq.1⟩
    next tooBig =>
      obtain ⟨⟨hp, fits⟩, greatest⟩ := ih found
      refine ⟨⟨Nat.le_succ_of_le hp, fits⟩, ?_⟩
      rintro q ⟨hq, hqx⟩
      obtain rfl | hq := Nat.le_succ_iff_eq_or_le.mp hq
      · exact absurd hqx tooBig
      · exact greatest ⟨hq, hqx⟩

theorem linv_eq_none_iff (x : Int) : linv x = none ↔ x < 1 := by
  rw [linv, largestCodeUpTo_eq_none_iff]
  constructor
  · intro below
    simpa using below 0 (Nat.zero_le _)
  · intro hx q _
    have least : linearPower 0 ≤ linearPower q := linearPower_monotone (Nat.zero_le q)
    rw [linearPower_zero] at least
    omega

theorem linv_eq_some_iff {x : Int} {p : Nat} :
    linv x = some p ↔ IsGreatest {q : Nat | q ≤ 255 ∧ (linearPower q : Int) ≤ x} p := by
  refine ⟨largestCodeUpTo_isGreatest, fun greatest => ?_⟩
  cases found : linv x with
  | none =>
    obtain ⟨hp, fits⟩ := greatest.1
    exact absurd fits (not_le.mpr ((largestCodeUpTo_eq_none_iff x 255).mp found p hp))
  | some q => rw [(largestCodeUpTo_isGreatest found).unique greatest]

theorem linv_of_top_le {x : Int} (h : 2492416 ≤ x) : linv x = some 255 := by
  have fits : (linearPower 255 : Int) ≤ x := by simpa using h
  exact linv_eq_some_iff.mpr ⟨⟨le_rfl, fits⟩, fun q hq => hq.1⟩

/-- Below the top code, R6's bracket L(p) ≤ x < L(p + 1) is the same as being the answer. -/
theorem linv_eq_some_iff_between {x : Int} {p : Nat} (hp : p < 255) :
    linv x = some p ↔ (linearPower p : Int) ≤ x ∧ x < linearPower (p + 1) := by
  rw [linv_eq_some_iff]
  constructor
  · rintro ⟨⟨-, fits⟩, greatest⟩
    refine ⟨fits, not_le.mp fun next_fits => ?_⟩
    exact absurd (greatest ⟨hp, next_fits⟩) (Nat.not_succ_le_self p)
  · rintro ⟨fits, next_above⟩
    refine ⟨⟨hp.le, fits⟩, fun q ⟨_, hqx⟩ => ?_⟩
    have smaller : linearPower q < linearPower (p + 1) := by omega
    exact Nat.lt_succ_iff.mp (linearPower_monotone.reflect_lt smaller)

theorem linv_between {x : Int} (low : 1 ≤ x) (high : x < 2492416) :
    ∃ p : Nat, linv x = some p ∧ p < 255 ∧ (linearPower p : Int) ≤ x ∧ x < linearPower (p + 1) := by
  cases found : linv x with
  | none => exact absurd ((linv_eq_none_iff x).mp found) (not_lt.mpr low)
  | some p =>
    obtain ⟨⟨hp, fits⟩, -⟩ := linv_eq_some_iff.mp found
    have not_top : p ≠ 255 := by
      rintro rfl
      rw [linearPower_top] at fits
      omega
    have hp : p < 255 := lt_of_le_of_ne hp not_top
    exact ⟨p, rfl, hp, (linv_eq_some_iff_between hp).mp found⟩

/-- Settles O13: the downward search finds the greatest code, and the order of L turns that into R6's cases. -/
theorem inverseLookupIsLargestCode : Obligations.InverseLookupIsLargestCode := by
  unfold Obligations.InverseLookupIsLargestCode
  refine ⟨fun x => (linv_eq_none_iff x).mpr, fun x => linv_of_top_le, fun x => linv_between, ?greatest, ?one,
    ?sixteen⟩
  case greatest => exact fun x p q found hq hqx => (linv_eq_some_iff.mp found).2 ⟨hq, hqx⟩
  case one => exact (linv_eq_some_iff_between (by decide)).mpr (by decide)
  case sixteen => exact (linv_eq_some_iff_between (by decide)).mpr (by decide)

end Sys2Proof.Machine
end

section
/-! Proofs about chapter 3: closes (R43, R44). -/

namespace Sys2Proof.Machine

/-! ### What a close comes to -/

theorem chainOf_eq_some {b : Byte} {c : Chain} (h : b.toNat = c.val) : chainOf b = some c := by
  have valid : b.toNat < 4 := by omega
  rw [chainOf, dif_pos valid]
  exact congrArg some (Fin.ext h)

theorem chainOf_eq_none {b : Byte} (h : 3 < b.toNat) : chainOf b = none :=
  dif_neg (by omega)

/-- A close on a valid chain is answered with what the chain's list makes of it (R43). -/
theorem exec_burstClose_of_chain {chain tag pact dact r : Byte} {c : Chain} {s : State}
    (running : s.rstHeld = false) (valid : chain.toNat = c.val) :
    exec (.burstClose chain tag pact dact r) s =
      let t := s.closeOn c tag pact.toNat (clampDuration dact.toNat) (min r.toNat 15)
      .next (t.state.answerLink 0x02 (closeBytes t.result chain tag)) := by
  change execBurstClose chain tag pact dact r s = _
  rw [execBurstClose, State.unlessHeld_running running, chainOf_eq_some valid]

theorem exec_burstClose_of_bad_chain {chain tag pact dact r : Byte} {s : State}
    (running : s.rstHeld = false) (bad : 3 < chain.toNat) :
    exec (.burstClose chain tag pact dact r) s =
      .next (s.answerLink 0x02 (closeBytes .badChain chain tag)) := by
  change execBurstClose chain tag pact dact r s = _
  rw [execBurstClose, State.unlessHeld_running running, chainOf_eq_none bad]

/-! ### Unknown tags (R44) -/

/-- The list is searched in two places, its oldest record and then the younger ones; an unknown tag is in
neither, and an empty list has no record to search. -/
theorem State.closeOn_of_unknown {s : State} {c : Chain} {tag : Byte}
    (unknown : ∀ g ∈ s.grants.chains[c].opened, g.tag ≠ tag) (pact dact r : Nat) :
    s.closeOn c tag pact dact r = ⟨s.lateClose c, .unknownTag⟩ := by
  rw [State.closeOn]
  split
  next => rfl
  next oldest younger list =>
    rw [list, List.forall_mem_cons] at unknown
    obtain ⟨not_oldest, not_younger⟩ := unknown
    have not_found : younger.find? (·.tag == tag) = none := by simpa using not_younger
    rw [if_neg not_oldest, not_found]

/-- Settles O22: the list is searched to its end, so the late-close counter is all that moves. -/
theorem unknownCloseIsCountedLate : Obligations.UnknownCloseIsCountedLate := by
  unfold Obligations.UnknownCloseIsCountedLate
  intro chain tag pact dact r s running
  constructor
  · intro c valid unknown
    rw [exec_burstClose_of_chain running valid, State.closeOn_of_unknown unknown]
    rfl
  · intro bad
    exact exec_burstClose_of_bad_chain running bad

end Sys2Proof.Machine
end

section
/-! Proofs about chapter 11: the Notice Queue (R169, R170). -/

namespace Sys2Proof.Machine

/-! ### Where an arriving notice goes (R169) -/

theorem arrive_cons_of_same_kind {head n : Notice} (same : head.kind = n.kind) (rest : List Notice) :
    arrive n (head :: rest) = ⟨head.kind, head.mask ||| n.mask, n.value⟩ :: rest :=
  if_pos same

theorem arrive_cons_of_other_kind {head n : Notice} (other : head.kind ≠ n.kind) (rest : List Notice) :
    arrive n (head :: rest) = head :: arrive n rest :=
  if_neg other

/-- The walk passes by every notice of another kind; where it first can stop decides the arrival. -/
theorem arrive_append_of_other_kinds {n : Notice} {before : List Notice}
    (other : ∀ x ∈ before, x.kind ≠ n.kind) (l : List Notice) :
    arrive n (before ++ l) = before ++ arrive n l := by
  induction before with
  | nil => rfl
  | cons head before ih =>
    rw [List.forall_mem_cons] at other
    obtain ⟨other_head, other_before⟩ := other
    rw [List.cons_append, arrive_cons_of_other_kind other_head, ih other_before, List.cons_append]

theorem arrive_of_kind_not_held {n : Notice} {l : List Notice} (other : ∀ x ∈ l, x.kind ≠ n.kind) :
    arrive n l = l ++ [n] := by
  simpa [arrive] using arrive_append_of_other_kinds other []

theorem arrive_of_kind_held {n x : Notice} {before : List Notice}
    (other : ∀ y ∈ before, y.kind ≠ n.kind) (same : x.kind = n.kind) (after : List Notice) :
    arrive n (before ++ x :: after) = before ++ ⟨x.kind, x.mask ||| n.mask, n.value⟩ :: after := by
  rw [arrive_append_of_other_kinds other, arrive_cons_of_same_kind same]

theorem State.noteAsserted_iff (s : State) : s.noteAsserted = true ↔ s.notices ≠ [] := by
  simp [State.noteAsserted]

/-! ### READ_NOTICE (R170) -/

theorem exec_readNotice_of_empty {s : State} (running : s.rstHeld = false) (empty : s.notices = []) :
    exec .readNotice s = .next (s.answerLink 0x03 [0x01, 0, 0, 0, 0]) := by
  change execReadNotice s = _
  rw [execReadNotice, State.unlessHeld_running running, empty]

theorem exec_readNotice_of_cons {s : State} {n : Notice} {rest : List Notice}
    (running : s.rstHeld = false) (queue : s.notices = n :: rest) :
    exec .readNotice s = .next ((s.withNotices rest).answerLink 0x03 n.bytes) := by
  change execReadNotice s = _
  rw [execReadNotice, State.unlessHeld_running running, queue]

theorem toByte_mod_256 (v : Nat) : toByte (v % 256) = toByte v := by
  apply BitVec.eq_of_toNat_eq
  simp [toByte]

theorem toBytes_two (v : Nat) : toBytes v 2 = [toByte (v / 256), toByte (v % 256)] := by
  rw [toByte_mod_256]
  simp [toBytes, toByte]

theorem Notice.bytes_eq (n : Notice) :
    n.bytes = [0x00, toByte n.kind.code, toByte n.mask.toNat, toByte (n.value.toNat / 256),
      toByte (n.value.toNat % 256)] := by
  rw [Notice.bytes, toBytes_two]
  rfl

/-- Settles O51: the walk of an arrival passes by the other kinds, and a read takes the head. In the table of
R170 the notice that comes after the read finds its kind no longer held, for the head was its only entry. -/
theorem noticesCoalesceAndAreReadOldestFirst : Obligations.NoticesCoalesceAndAreReadOldestFirst := by
  unfold Obligations.NoticesCoalesceAndAreReadOldestFirst
  refine ⟨fun n l => arrive_of_kind_not_held, fun n x before after other same =>
    arrive_of_kind_held other same after, State.noteAsserted_iff, fun s => exec_readNotice_of_empty, ?oldest,
    fun head n rest same => arrive_cons_of_same_kind same rest, ?readFirst,
    fun head n rest other => arrive_cons_of_other_kind other rest⟩
  case oldest =>
    intro s n rest running queue
    rw [exec_readNotice_of_cons running queue, Notice.bytes_eq]
    rfl
  case readFirst =>
    intro head n rest same only
    rw [same] at only
    exact arrive_of_kind_not_held only

end Sys2Proof.Machine
end

section
/-! Proofs about the dispatch: what every command of one kind has in common (R175, R176, R179). -/

namespace Sys2Proof.Machine

/-! ### The commands of the Policy Port's table -/

/-- The answer of the block that owns a Policy Port command of the table; every other row is no such command. -/
def blockOf : Instr → State → BlockAnswer
  | .readChain p => readChainBlock p
  | .setWindowShape p => setWindowShapeBlock p
  | .setThermal p => setThermalBlock p
  | .setSensorCal p => setSensorCalBlock p
  | .writeClass p => writeClassBlock p
  | .setServiceMap p => setServiceMapBlock p
  | .writeMatcher p => writeMatcherBlock p
  | .writeStep p => writeStepBlock p
  | .setSequencer p => setSequencerBlock p
  | .setTrigger p => setTriggerBlock p
  | .startSchedule p => startScheduleBlock p
  | .abortSchedule _ => abortScheduleBlock
  | .freeze _ => freezeBlock
  | .thaw _ => thawBlock
  | .setOverload p => setOverloadBlock p
  | .setMismatch p => setMismatchBlock p
  | .setChain p => setChainBlock p
  | .setPoolLimit p => setPoolLimitBlock p
  | .setLifetime p => setLifetimeBlock p
  | .setTriggerEnable p => setTriggerEnableBlock p
  | .pushContext _ => pushContextBlock
  | .popContext _ => popContextBlock
  | .peekContext _ => peekContextBlock
  | .readEvents _ => readEventsBlock
  | .clearEvents p => clearEventsBlock p
  | .setAlertMask p => setAlertMaskBlock p
  | .softReset _ => softResetBlock
  | .powerOn _ _ _ => State.accept
  | .rstNAssert => State.accept
  | .loadCompletion _ => State.accept
  | .burstReq _ _ _ _ _ => State.accept
  | .burstClose _ _ _ _ _ => State.accept
  | .readNotice => State.accept
  | .readLinkStatus => State.accept
  | .linkReset => State.accept
  | .badFrame _ _ => State.accept
  | .shortFrame _ => State.accept
  | .lapse _ _ => State.accept
  | .bucketExpiry => State.accept
  | .modelStep => State.accept
  | .conversionTimerExpiry _ => State.accept
  | .periodBoundary => State.accept
  | .ovlPinChange _ _ => State.accept
  | .debounceExpiry _ => State.accept
  | .recoveryHoldExpiry => State.accept
  | .writeCompletion => State.accept
  | .readStatus _ => State.accept
  | .badCommand _ _ => State.accept
  | .commandByteArrival _ => State.accept

/-- Every command of the table is taken in the same way, by its block (R175, R176). -/
theorem exec_policyCommand {c : Instr} {b : Byte} {n : Nat} {p : List Byte}
    (row : policyCommand c = some (b, n, p)) (s : State) :
    exec c s = .next (s.atWriteEnd b fun s => s.takeCommand n p (blockOf c)) := by
  cases c <;> cases row <;> rfl

@[simp] theorem State.refuse_eq (s : State) (status : Status) : s.refuse status = ⟨status, [], s⟩ := rfl

@[simp] theorem State.accept_eq (s : State) : s.accept = ⟨.ok, [], s⟩ := rfl

theorem State.isLoading_iff (s : State) : s.isLoading = true ↔ s.loader.load = .loading := by
  simp [State.isLoading]

theorem State.isLoading_eq_false_iff (s : State) : s.isLoading = false ↔ s.loader.load = .ready := by
  rw [State.isLoading]
  cases s.loader.load <;> decide

/-- A served command of the right length is answered by its block (R176, order 4). -/
theorem exec_of_serving {c : Instr} {b : Byte} {n : Nat} {p : List Byte} {s : State}
    (row : policyCommand c = some (b, n, p)) (serving : s.Serving b) (length : p.length = n) :
    exec c s = .next ((blockOf c s).state.reply (blockOf c s).status (blockOf c s).data) := by
  obtain ⟨running, ready, flight⟩ := serving
  rw [exec_policyCommand row, State.atWriteEnd_taken running flight,
    State.takeCommand_ready (s.isLoading_eq_false_iff.mpr ready) length]

/-! ### The other commands -/

/-- All but three commands act on a part that is not held in reset, and on no other (R179). -/
theorem exec_eq_unlessHeld {c : Instr} (not_powerOn : ∀ a w k : Bool, c ≠ .powerOn a w k)
    (not_assert : c ≠ .rstNAssert) (not_pin : ∀ (line : OvlLine) (b : Bool), c ≠ .ovlPinChange line b) :
    ∃ f : State → State, ∀ s : State, exec c s = .next (s.unlessHeld f) := by
  cases c
  case powerOn a w k => exact absurd rfl (not_powerOn a w k)
  case rstNAssert => exact absurd rfl not_assert
  case ovlPinChange line b => exact absurd rfl (not_pin line b)
  all_goals exact ⟨_, fun _ => rfl⟩

/-! ### Where a command leads -/

theorem leads_of_next {P : State → Prop} {u : State} (reached : P u) (t : State)
    (next : (.next u : Host.Outcome State Fault Refusal) = .next t) : P t := by
  cases next
  exact reached

theorem State.unlessHeld_keeps {P : State → Prop} {s : State} {f : State → State} (held : P s)
    (running : s.rstHeld = false → P (f s)) : P (s.unlessHeld f) := by
  cases h : s.rstHeld
  · rw [State.unlessHeld_running h]
    exact running h
  · rw [State.unlessHeld_held h]
    exact held

theorem leads_of_unlessHeld {P : State → Prop} {s : State} {f : State → State} (held : P s)
    (running : s.rstHeld = false → P (f s)) :
    ∀ t : State, (.next (s.unlessHeld f) : Host.Outcome State Fault Refusal) = .next t → P t :=
  leads_of_next (State.unlessHeld_keeps held running)

/-- What is said of the state behind the ports, and kept by a block that answers, is kept by its command. -/
theorem policyCommand_keeps {P : State → Prop} {c : Instr} {b : Byte} {n : Nat} {p : List Byte} {s : State}
    (row : policyCommand c = some (b, n, p)) (held : P s)
    (replied : ∀ (u : State) (status : Status) (data : List Byte), P u → P (u.reply status data))
    (answered : s.loader.load = .ready → P (blockOf c s).state) : ∀ t : State, exec c s = .next t → P t := by
  rw [exec_policyCommand row]
  refine leads_of_unlessHeld held fun _ => ?_
  split
  next =>
    simp only [State.takeCommand_cases]
    split
    next => exact replied s _ _ held
    next ready =>
      split
      next => exact replied s _ _ held
      next => exact replied _ _ _ (answered (s.isLoading_eq_false_iff.mp (Bool.not_eq_true _ ▸ ready)))
  next => exact held

theorem step_keeps_of_exec {P : State → Prop} (taken : ∀ (s : State) (rest : List Instr), P s → P (s.withPending rest))
    (kept : ∀ (c : Instr) (s : State), P s → ∀ t : State, exec c s = .next t → P t) (s t : State) (h : P s)
    (next : step s = .next t) : P t := by
  rw [step] at next
  split at next
  next => exact leads_of_next h t next
  next c rest _ => exact kept c _ (taken s rest h) t next

end Sys2Proof.Machine
end

section
/-! Proofs about the dispatch: which parts of the state a command can change. -/

namespace Sys2Proof.Machine

/-! ### The parts of the state

The ports' own records are not among them: every command may answer. Nor are the RST_N line and the counter
of the free value, which no law reads. -/

/-- A part of the state that commands change or leave. -/
inductive Part where
  | pending
  | engine
  | grants
  | windows
  | thermal
  | scanner
  | classifier
  | sequencer
  | supply
  | mismatch
  | context
  | events
  | notices
  | loader

/-- A part stands the same in two states. -/
def Part.Same (s t : State) : Part → Prop
  | .pending => t.pending = s.pending
  | .engine => t.engine = s.engine
  | .grants => t.grants = s.grants
  | .windows => t.windows = s.windows
  | .thermal => t.thermal = s.thermal
  | .scanner => t.scanner = s.scanner
  | .classifier => t.classifier = s.classifier
  | .sequencer => t.sequencer = s.sequencer
  | .supply => t.supply = s.supply
  | .mismatch => t.mismatch = s.mismatch
  | .context => t.context = s.context
  | .events => t.events = s.events
  | .notices => t.notices = s.notices
  | .loader => t.loader = s.loader

/-- Every part but the queue of waiting commands. -/
def allParts : List Part :=
  [.engine, .grants, .windows, .thermal, .scanner, .classifier, .sequencer, .supply, .mismatch, .context,
    .events, .notices, .loader]

/-- The parts a command can change; the rows at the end change none. -/
def touched : Instr → List Part
  | .powerOn _ _ _ => allParts
  | .rstNAssert => allParts
  | .loadCompletion _ =>
    [.windows, .thermal, .scanner, .classifier, .sequencer, .supply, .mismatch, .context, .events, .notices,
      .loader]
  | .softReset _ =>
    [.engine, .grants, .windows, .thermal, .classifier, .sequencer, .supply, .mismatch, .context, .events,
      .notices]
  | .burstReq _ _ _ _ _ => [.engine, .grants]
  | .burstClose _ _ _ _ _ => [.grants, .windows, .sequencer, .mismatch, .events, .notices]
  | .readNotice => [.notices]
  | .linkReset => [.grants, .windows, .notices]
  | .lapse _ _ => [.grants, .windows, .events]
  | .bucketExpiry => [.windows]
  | .modelStep => [.windows, .thermal, .sequencer, .events, .notices]
  | .conversionTimerExpiry _ => [.thermal, .scanner, .sequencer, .events, .notices]
  | .periodBoundary => [.sequencer, .events, .notices]
  | .ovlPinChange _ _ => [.supply, .sequencer, .events, .notices]
  | .debounceExpiry _ => [.supply, .sequencer, .events, .notices]
  | .recoveryHoldExpiry => [.supply, .notices]
  | .writeCompletion => [.classifier]
  | .readChain _ => [.engine, .grants]
  | .setWindowShape _ => [.windows]
  | .setThermal _ => [.thermal, .sequencer, .events, .notices]
  | .setSensorCal _ => [.scanner]
  | .writeClass _ => [.classifier]
  | .setServiceMap _ => [.classifier]
  | .writeMatcher _ => [.classifier]
  | .writeStep _ => [.sequencer]
  | .setSequencer _ => [.sequencer]
  | .setTrigger _ => [.sequencer]
  | .startSchedule _ => [.sequencer]
  | .abortSchedule _ => [.sequencer, .events, .notices]
  | .freeze _ => [.sequencer, .notices]
  | .thaw _ => [.sequencer, .notices]
  | .setOverload _ => [.supply, .notices]
  | .setMismatch _ => [.mismatch]
  | .setChain _ => [.context]
  | .setPoolLimit _ => [.supply, .context, .notices]
  | .setLifetime _ => [.context]
  | .setTriggerEnable _ => [.context]
  | .pushContext _ => [.context]
  | .popContext _ => [.supply, .context, .notices]
  | .clearEvents _ => [.events]
  | .setAlertMask _ => [.events]
  | .readLinkStatus => []
  | .badFrame _ _ => []
  | .shortFrame _ => []
  | .peekContext _ => []
  | .readEvents _ => []
  | .readStatus _ => []
  | .badCommand _ _ => []
  | .commandByteArrival _ => []

/-- Two states agree in every part that is not in a list. -/
def AgreeOff (l : List Part) (s t : State) : Prop :=
  ∀ p : Part, p ∉ l → p.Same s t

@[simp] theorem agreeOff_iff (l : List Part) (s t : State) :
    AgreeOff l s t ↔
      (.pending ∈ l ∨ t.pending = s.pending) ∧ (.engine ∈ l ∨ t.engine = s.engine) ∧
      (.grants ∈ l ∨ t.grants = s.grants) ∧ (.windows ∈ l ∨ t.windows = s.windows) ∧
      (.thermal ∈ l ∨ t.thermal = s.thermal) ∧ (.scanner ∈ l ∨ t.scanner = s.scanner) ∧
      (.classifier ∈ l ∨ t.classifier = s.classifier) ∧ (.sequencer ∈ l ∨ t.sequencer = s.sequencer) ∧
      (.supply ∈ l ∨ t.supply = s.supply) ∧ (.mismatch ∈ l ∨ t.mismatch = s.mismatch) ∧
      (.context ∈ l ∨ t.context = s.context) ∧ (.events ∈ l ∨ t.events = s.events) ∧
      (.notices ∈ l ∨ t.notices = s.notices) ∧ (.loader ∈ l ∨ t.loader = s.loader) := by
  simp only [← or_iff_not_imp_left, AgreeOff]
  constructor
  · intro h
    exact ⟨h .pending, h .engine, h .grants, h .windows, h .thermal, h .scanner, h .classifier, h .sequencer,
      h .supply, h .mismatch, h .context, h .events, h .notices, h .loader⟩
  · rintro ⟨_, _, _, _, _, _, _, _, _, _, _, _, _, _⟩ p
    cases p <;> assumption

theorem AgreeOff.refl (l : List Part) (s : State) : AgreeOff l s s := by
  simp

theorem AgreeOff.reply {l : List Part} {s t : State} (h : AgreeOff l s t) (status : Status) (data : List Byte) :
    AgreeOff l s (t.reply status data) := by
  simpa using h

theorem AgreeOff.answerLink {l : List Part} {s t : State} (h : AgreeOff l s t) (kind : Byte) (answer : List Byte) :
    AgreeOff l s (t.answerLink kind answer) := by
  simpa using h

/-! ### What the blocks' answers leave

Each is one reading of the block's branches: a refusal leaves everything, and what an acceptance changes is in the
frame lemmas of the operations it is made of. -/

theorem readChainBlock_agreeOff (p : List Byte) (s : State) :
    AgreeOff [.engine, .grants] s (readChainBlock p s).state := by
  unfold readChainBlock
  split
  next => simp
  next => split <;> simp

theorem setWindowShapeBlock_agreeOff (p : List Byte) (s : State) :
    AgreeOff [.windows] s (setWindowShapeBlock p s).state := by
  unfold setWindowShapeBlock
  split <;> simp

theorem setThermalBlock_agreeOff (p : List Byte) (s : State) :
    AgreeOff [.thermal, .sequencer, .events, .notices] s (setThermalBlock p s).state := by
  unfold setThermalBlock
  split <;> simp

theorem setSensorCalBlock_agreeOff (p : List Byte) (s : State) :
    AgreeOff [.scanner] s (setSensorCalBlock p s).state := by
  unfold setSensorCalBlock
  split <;> simp

theorem writeClassBlock_agreeOff (p : List Byte) (s : State) :
    AgreeOff [.classifier] s (writeClassBlock p s).state := by
  unfold writeClassBlock
  split <;> simp

theorem setServiceMapBlock_agreeOff (p : List Byte) (s : State) :
    AgreeOff [.classifier] s (setServiceMapBlock p s).state := by
  unfold setServiceMapBlock
  split <;> simp

theorem writeMatcherBlock_agreeOff (p : List Byte) (s : State) :
    AgreeOff [.classifier] s (writeMatcherBlock p s).state := by
  unfold writeMatcherBlock
  split
  next => simp
  next => split <;> simp

theorem writeStepBlock_agreeOff (p : List Byte) (s : State) :
    AgreeOff [.sequencer] s (writeStepBlock p s).state := by
  unfold writeStepBlock
  split
  next => simp
  next => split <;> simp

theorem setSequencerBlock_agreeOff (p : List Byte) (s : State) :
    AgreeOff [.sequencer] s (setSequencerBlock p s).state := by
  unfold setSequencerBlock
  split
  next => simp
  next => split <;> simp

theorem setTriggerBlock_agreeOff (p : List Byte) (s : State) :
    AgreeOff [.sequencer] s (setTriggerBlock p s).state := by
  unfold setTriggerBlock
  split <;> simp

theorem startScheduleBlock_agreeOff (p : List Byte) (s : State) :
    AgreeOff [.sequencer] s (startScheduleBlock p s).state := by
  unfold startScheduleBlock
  split <;> simp

theorem abortScheduleBlock_agreeOff (s : State) :
    AgreeOff [.sequencer, .events, .notices] s (abortScheduleBlock s).state := by
  unfold abortScheduleBlock
  split <;> simp

theorem freezeBlock_agreeOff (s : State) :
    AgreeOff [.sequencer, .notices] s (freezeBlock s).state := by
  unfold freezeBlock
  split <;> simp

theorem thawBlock_agreeOff (s : State) :
    AgreeOff [.sequencer, .notices] s (thawBlock s).state := by
  unfold thawBlock
  split <;> simp

theorem setOverloadBlock_agreeOff (p : List Byte) (s : State) :
    AgreeOff [.supply, .notices] s (setOverloadBlock p s).state := by
  simp [setOverloadBlock]

theorem setMismatchBlock_agreeOff (p : List Byte) (s : State) :
    AgreeOff [.mismatch] s (setMismatchBlock p s).state := by
  simp [setMismatchBlock]

theorem setChainBlock_agreeOff (p : List Byte) (s : State) :
    AgreeOff [.context] s (setChainBlock p s).state := by
  unfold setChainBlock
  split <;> simp

theorem setPoolLimitBlock_agreeOff (p : List Byte) (s : State) :
    AgreeOff [.supply, .context, .notices] s (setPoolLimitBlock p s).state := by
  simp [setPoolLimitBlock]

theorem setLifetimeBlock_agreeOff (p : List Byte) (s : State) :
    AgreeOff [.context] s (setLifetimeBlock p s).state := by
  simp [setLifetimeBlock]

theorem setTriggerEnableBlock_agreeOff (p : List Byte) (s : State) :
    AgreeOff [.context] s (setTriggerEnableBlock p s).state := by
  unfold setTriggerEnableBlock
  split <;> simp

theorem pushContextBlock_agreeOff (s : State) :
    AgreeOff [.context] s (pushContextBlock s).state := by
  unfold pushContextBlock
  split <;> simp

theorem popContextBlock_agreeOff (s : State) :
    AgreeOff [.supply, .context, .notices] s (popContextBlock s).state := by
  unfold popContextBlock
  split <;> simp

theorem clearEventsBlock_agreeOff (p : List Byte) (s : State) :
    AgreeOff [.events] s (clearEventsBlock p s).state := by
  unfold clearEventsBlock
  split <;> simp

theorem setAlertMaskBlock_agreeOff (p : List Byte) (s : State) :
    AgreeOff [.events] s (setAlertMaskBlock p s).state := by
  unfold setAlertMaskBlock
  split <;> simp

theorem peekContextBlock_agreeOff (s : State) : AgreeOff [] s (peekContextBlock s).state := by
  unfold peekContextBlock
  split <;> simp

theorem State.softReset_agreeOff (s : State) :
    AgreeOff [.engine, .grants, .windows, .thermal, .classifier, .sequencer, .supply, .mismatch, .context, .events,
      .notices] s s.softReset := by
  unfold State.softReset
  dsimp only
  split <;> simp [State.restored]

theorem softResetBlock_agreeOff (s : State) :
    AgreeOff [.engine, .grants, .windows, .thermal, .classifier, .sequencer, .supply, .mismatch, .context, .events,
      .notices] s (softResetBlock s).state := by
  simpa only [softResetBlock, State.accept_eq] using s.softReset_agreeOff

theorem State.completeLoad_agreeOff (s : State) (k : Contents) (status : ImageStatus) :
    AgreeOff [.windows, .thermal, .scanner, .classifier, .sequencer, .supply, .mismatch, .context, .events,
      .notices, .loader] s (s.completeLoad k status) := by
  unfold State.completeLoad
  dsimp only
  split <;> simp [State.applyLoad]

theorem blockOf_agreeOff (c : Instr) (s : State) : AgreeOff (touched c) s (blockOf c s).state := by
  cases c
  case readChain p => exact readChainBlock_agreeOff p s
  case setWindowShape p => exact setWindowShapeBlock_agreeOff p s
  case setThermal p => exact setThermalBlock_agreeOff p s
  case setSensorCal p => exact setSensorCalBlock_agreeOff p s
  case writeClass p => exact writeClassBlock_agreeOff p s
  case setServiceMap p => exact setServiceMapBlock_agreeOff p s
  case writeMatcher p => exact writeMatcherBlock_agreeOff p s
  case writeStep p => exact writeStepBlock_agreeOff p s
  case setSequencer p => exact setSequencerBlock_agreeOff p s
  case setTrigger p => exact setTriggerBlock_agreeOff p s
  case startSchedule p => exact startScheduleBlock_agreeOff p s
  case abortSchedule p => exact abortScheduleBlock_agreeOff s
  case freeze p => exact freezeBlock_agreeOff s
  case thaw p => exact thawBlock_agreeOff s
  case setOverload p => exact setOverloadBlock_agreeOff p s
  case setMismatch p => exact setMismatchBlock_agreeOff p s
  case setChain p => exact setChainBlock_agreeOff p s
  case setPoolLimit p => exact setPoolLimitBlock_agreeOff p s
  case setLifetime p => exact setLifetimeBlock_agreeOff p s
  case setTriggerEnable p => exact setTriggerEnableBlock_agreeOff p s
  case pushContext p => exact pushContextBlock_agreeOff s
  case popContext p => exact popContextBlock_agreeOff s
  case clearEvents p => exact clearEventsBlock_agreeOff p s
  case setAlertMask p => exact setAlertMaskBlock_agreeOff p s
  case softReset p => exact softResetBlock_agreeOff s
  case peekContext p => exact peekContextBlock_agreeOff s
  all_goals exact .refl _ s

/-! ### What a command leaves -/

theorem AgreeOff.of_unlessHeld {l : List Part} {s : State} {f : State → State} (acts : AgreeOff l s (f s)) :
    ∀ t : State, (.next (s.unlessHeld f) : Host.Outcome State Fault Refusal) = .next t → AgreeOff l s t :=
  leads_of_unlessHeld (.refl l s) fun _ => acts

theorem takeCommand_agreeOff (c : Instr) (n : Nat) (p : List Byte) (s : State) :
    AgreeOff (touched c) s (s.takeCommand n p (blockOf c)) := by
  rw [State.takeCommand_cases]
  split
  next => exact (AgreeOff.refl _ s).reply _ _
  next =>
    split
    next => exact (AgreeOff.refl _ s).reply _ _
    next => exact (blockOf_agreeOff c s).reply _ _

/-- A command leaves every part but its own. -/
theorem exec_agreeOff (c : Instr) (s : State) : ∀ t : State, exec c s = .next t → AgreeOff (touched c) s t := by
  cases row : policyCommand c with
  | some x =>
    obtain ⟨b, n, p⟩ := x
    rw [exec_policyCommand row]
    refine AgreeOff.of_unlessHeld ?_
    split
    next => exact takeCommand_agreeOff c n p s
    next => exact .refl _ s
  | none =>
    cases c
    case powerOn a w k => exact leads_of_next (P := AgreeOff _ s) (by simp [touched, allParts, State.powerOn])
    case rstNAssert => exact leads_of_next (P := AgreeOff _ s) (by simp [touched, allParts, State.powerOn])
    case ovlPinChange line b =>
      refine leads_of_next (P := AgreeOff _ s) ?_
      repeat' split
      all_goals simp [touched]
    case loadCompletion flash =>
      refine AgreeOff.of_unlessHeld ?_
      split
      next => exact s.completeLoad_agreeOff _ _
      next => exact .refl _ s
    case burstReq => exact AgreeOff.of_unlessHeld (by simp [touched])
    case burstClose => exact AgreeOff.of_unlessHeld (by split <;> simp [touched])
    case readNotice => exact AgreeOff.of_unlessHeld (by split <;> simp [touched])
    case linkReset => exact AgreeOff.of_unlessHeld (by simp [touched])
    case lapse => exact AgreeOff.of_unlessHeld (by simp [touched])
    case bucketExpiry => exact AgreeOff.of_unlessHeld (by split <;> simp [touched])
    case modelStep => exact AgreeOff.of_unlessHeld (by split <;> simp [touched])
    case conversionTimerExpiry => exact AgreeOff.of_unlessHeld (by split <;> simp [touched])
    case periodBoundary => exact AgreeOff.of_unlessHeld (by split <;> simp [touched])
    case debounceExpiry => exact AgreeOff.of_unlessHeld (by split <;> simp [touched])
    case recoveryHoldExpiry => exact AgreeOff.of_unlessHeld (by split <;> simp [touched])
    case writeCompletion => exact AgreeOff.of_unlessHeld (by split <;> simp [touched])
    case readLinkStatus => exact AgreeOff.of_unlessHeld ((AgreeOff.refl _ s).answerLink _ _)
    case badFrame => exact AgreeOff.of_unlessHeld ((AgreeOff.refl _ s).answerLink _ _)
    case shortFrame => exact AgreeOff.of_unlessHeld (by simp)
    case commandByteArrival => exact AgreeOff.of_unlessHeld (by simp)
    case badCommand => exact AgreeOff.of_unlessHeld (by split <;> simp)
    case readStatus =>
      refine AgreeOff.of_unlessHeld ?_
      repeat' split
      all_goals simp
    all_goals cases row

theorem exec_untouched {c : Instr} {s t : State} (next : exec c s = .next t) {p : Part} (other : p ∉ touched c) :
    p.Same s t :=
  exec_agreeOff c s t next p other

end Sys2Proof.Machine
end

section
/-! Proofs about chapter 13: what a load completion and a soft reset make of each block (R181, R182). -/

namespace Sys2Proof.Machine

theorem State.reevaluateThermal_thermal (s : State) : s.reevaluateThermal.thermal = s.thermal.reevaluateAll := by
  simp [State.reevaluateThermal]

theorem State.applyLevel_supply (s : State) (level : SupplyLevel) :
    (s.applyLevel level).supply = { s.supply with applied := level, hold := none } := rfl

/-! ### Load completion -/

/-- Whatever the order of the two reactions, the states are re-evaluated and E recomputed once. -/
theorem State.reactToLoad_thermal_supply (s : State) :
    s.reactToLoad.thermal = s.thermal.reevaluateAll ∧
      s.reactToLoad.supply = { s.supply with
        limit := effectiveLimit s.supply.applied s.context.current.poolLimit s.supply.settings } := by
  unfold State.reactToLoad
  dsimp only
  repeat' split
  all_goals simp [State.reevaluateThermal_thermal]

/-- Each block takes its section of the contents (R181). -/
theorem State.completeLoad_blocks (s : State) (k : Contents) (status : ImageStatus) :
    (s.completeLoad k status).loader = ⟨.ready, status, some k⟩ ∧
    (s.completeLoad k status).scanner = s.scanner.load k ∧
    (s.completeLoad k status).thermal =
      ThermalEstimator.reevaluateAll { s.thermal.withContents k with timer := some k.stepPeriod.micros } ∧
    (s.completeLoad k status).classifier = k.classifier ∧
    (s.completeLoad k status).context = ⟨k.context, s.context.stack⟩ ∧
    (s.completeLoad k status).windows = s.windows.load k.shape ∧
    (s.completeLoad k status).supply = { s.supply with
      settings := k.overload
      limit := effectiveLimit s.supply.applied k.context.poolLimit k.overload } ∧
    (s.completeLoad k status).mismatch = ⟨k.mismatch, s.mismatch.chains⟩ := by
  obtain ⟨thermal, supply⟩ := (s.applyLoad k status).reactToLoad_thermal_supply
  unfold State.completeLoad
  dsimp only
  split <;> simp [thermal, supply] <;> simp [State.applyLoad]

/-! ### Soft reset -/

theorem State.applySampled_supply (s : State) :
    s.applySampled.supply = { s.supply with
      applied := s.supply.target
      hold := none
      limit := effectiveLimit s.supply.target s.context.current.poolLimit s.supply.settings } := by
  unfold State.applySampled
  dsimp only
  split <;> simp [State.applyLevel_supply]

/-- Each block returns to the retained contents (R182). -/
theorem State.softReset_blocks (s : State) :
    let k := s.retainedContents
    let lines : SupplyPool := { s.supply.sampled with settings := k.overload, hold := none }
    s.softReset.link = { s.link with epoch := s.link.epoch + 1 } ∧
    s.softReset.engine = Vector.replicate 4 EngineChain.zero ∧
    s.softReset.grants = ⟨Vector.replicate 4 GrantChain.zero, 0⟩ ∧
    s.softReset.windows = WindowUnit.restore k.shape ∧
    s.softReset.thermal = (s.thermal.restore k).reevaluateAll ∧
    s.softReset.classifier = k.classifier ∧
    s.softReset.mismatch = ⟨k.mismatch, Vector.replicate 4 ⟨.clear, 0, 0⟩⟩ ∧
    s.softReset.context = ⟨k.context, []⟩ ∧
    s.softReset.supply = { lines with
      applied := lines.target
      limit := effectiveLimit lines.target k.context.poolLimit k.overload } := by
  intro k lines
  unfold State.softReset
  dsimp only
  split <;> simp [State.reevaluateThermal_thermal, State.applySampled_supply] <;> simp [State.restored, k, lines]

/-- The parts no soft reset reaches. -/
theorem State.softReset_kept (s : State) :
    s.softReset.pending = s.pending ∧ s.softReset.rstHeld = s.rstHeld ∧ s.softReset.scanner = s.scanner ∧
    s.softReset.policy = s.policy ∧ s.softReset.loader = s.loader ∧ s.softReset.freeCount = s.freeCount := by
  unfold State.softReset
  dsimp only
  split <;> simp [State.restored]

/-! ### Power-on and the assertion of RST_N -/

theorem State.presentTrigger_of_loading {s : State} (loading : s.loader.load = .loading) (k : TriggerKind) :
    s.presentTrigger k = s := by
  have gate : s.triggerPasses k = false := by simp [State.triggerPasses, State.isLoading, loading]
  rw [State.presentTrigger, gate]
  rfl

/-- With no grant open no recomputation cuts the pool. -/
theorem State.recomputeLimit_of_poolSum_zero {s : State} (empty : s.grants.poolSum = 0) {e : Nat}
    (limit : effectiveLimit s.supply.applied s.context.current.poolLimit s.supply.settings = e) :
    s.recomputeLimit = s.withSupply { s.supply with limit := e } := by
  rw [State.recomputeLimit, limit, if_neg (by simp [empty])]

/-- A rise of a LOADING part is recorded and starts nothing. -/
theorem State.announceLevel_of_loading {s : State} (loading : s.loader.load = .loading) (level : SupplyLevel) :
    s.announceLevel level =
      match level with
      | .nominal => s
      | .warn => s.raiseEvent .overloadWarn 0
      | .crit => s.raiseEvent .overloadCrit 0 := by
  cases level with
  | nominal => rfl
  | warn => rfl
  | crit =>
    have still : (s.raiseEvent .overloadCrit 0).loader.load = .loading := by simpa using loading
    rw [State.announceLevel, State.presentTrigger_of_loading still]

/-- The first event of a cleared record. -/
theorem State.raiseEvent_of_clear {s : State} {k : EventKind} (clear : s.events.records[k.index] = ⟨false, 0, 0⟩)
    (m : BitVec 5) : s.raiseEvent k m =
      s.withEvents { s.events with records := s.events.records.set k.index ⟨true, m, 1⟩ } := by
  have first : (⟨false, 0, 0⟩ : EventRecord).take m = ⟨true, m, 1⟩ := by simp [EventRecord.take, count8]
  rw [State.raiseEvent, clear, first]

theorem State.reformTarget_of_rise {s : State} (rise : s.supply.applied.code < s.supply.target.code) :
    s.reformTarget = ((s.applyLevel s.supply.target).announceLevel s.supply.target).recomputeLimit := by
  rw [State.reformTarget, if_pos rise]

/-- Settles O7: with both pins released nothing rises, and else the higher of the levels found does, while LOADING
closes the gate of the trigger latch and no open grant makes a cut of the pool. -/
theorem powerOnSamplesTheLines : Obligations.PowerOnSamplesTheLines := by
  unfold Obligations.PowerOnSamplesTheLines
  intro addrSel warn crit s
  change Host.Outcome.next (State.reformTarget _) = _
  have at_warn : effectiveLimit .warn 1200000 OverloadSettings.builtIn = 600000 := rfl
  have at_crit : effectiveLimit .crit 1200000 OverloadSettings.builtIn = 400000 := rfl
  have warn_rises : SupplyLevel.nominal.code < SupplyLevel.warn.code := by decide
  have crit_rises : SupplyLevel.nominal.code < SupplyLevel.crit.code := by decide
  cases crit
  case false =>
    cases warn
    case false => rfl
    case true =>
      rw [State.reformTarget_of_rise (show _ from warn_rises), State.announceLevel_of_loading rfl,
        State.recomputeLimit_of_poolSum_zero rfl (show _ from at_warn)]
      refine congrArg Host.Outcome.next ?_
      change State.withSupply (State.raiseEvent _ .overloadWarn 0) _ = _
      rw [State.raiseEvent_of_clear rfl]
      rfl
  case true =>
    rw [State.reformTarget_of_rise (show _ from crit_rises), State.announceLevel_of_loading rfl,
      State.recomputeLimit_of_poolSum_zero rfl (show _ from at_crit)]
    refine congrArg Host.Outcome.next ?_
    change State.withSupply (State.raiseEvent _ .overloadCrit 0) _ = _
    rw [State.raiseEvent_of_clear rfl]
    rfl

theorem exec_of_held {c : Instr} {s : State} (held : s.rstHeld = true)
    (not_powerOn : ∀ a w k : Bool, c ≠ .powerOn a w k) (not_assert : c ≠ .rstNAssert)
    (not_pin : ∀ (line : OvlLine) (b : Bool), c ≠ .ovlPinChange line b) : exec c s = .next s := by
  obtain ⟨f, taken⟩ := exec_eq_unlessHeld not_powerOn not_assert not_pin
  rw [taken, State.unlessHeld_held held]

theorem exec_ovlPinChange_of_held {s : State} (held : s.rstHeld = true) (line : OvlLine) (b : Bool) :
    exec (.ovlPinChange line b) s =
      .next (s.withSupply (s.supply.setLine line { s.supply.line line with pin := b })) := by
  change execOvlPinChange line b s = _
  rw [execOvlPinChange, if_pos held]

/-- Settles O6: the commands but three act through `State.unlessHeld`. -/
theorem heldPartStaysInPowerOnState : Obligations.HeldPartStaysInPowerOnState := by
  unfold Obligations.HeldPartStaysInPowerOnState
  exact ⟨fun c s => exec_of_held, fun line b s held => exec_ovlPinChange_of_held held line b, fun s => rfl⟩

end Sys2Proof.Machine
end

section
/-! Proofs about chapter 3: the grant law (R38, R41). -/

namespace Sys2Proof.Machine

theorem getElem_set_fin {α : Type} {n : Nat} (v : Vector α n) (i j : Fin n) (x : α) :
    (v.set i x)[j] = if j = i then x else v[j] := by
  rw [Fin.getElem_fin, Vector.getElem_set]
  simp only [Fin.ext_iff, eq_comm (a := j.val)]
  rfl

theorem getElem_ofFn_fin {α : Type} {n : Nat} (f : Fin n → α) (j : Fin n) : (Vector.ofFn f)[j] = f j := by
  simp

/-! ### Sums over the chains -/

/-- One chain's term changes, and the sum with it. -/
theorem sumOverChains_of_update {f g : Chain → Nat} (c : Chain) (others : ∀ d : Chain, d ≠ c → g d = f d) :
    sumOverChains g + f c = sumOverChains f + g c := by
  have all : ∀ h : Chain → Nat, sumOverChains h = h c + ∑ d ∈ Finset.univ.erase c, h d := fun h => by
    rw [Finset.add_sum_erase _ _ (Finset.mem_univ c), Fin.sum_univ_four, sumOverChains]
  have rest : ∑ d ∈ Finset.univ.erase c, g d = ∑ d ∈ Finset.univ.erase c, f d :=
    Finset.sum_congr rfl fun d hd => others d (Finset.ne_of_mem_erase hd)
  rw [all f, all g, rest]
  omega

/-! ### One chain's list -/

/-- The sum of the linear powers of a chain's open records. -/
def GrantChain.power (g : GrantChain) : Nat :=
  (g.opened.map (·.power)).sum

theorem GrantChain.zero_lawful : GrantChain.zero.Lawful := by
  simp [GrantChain.Lawful, GrantChain.zero]

theorem GrantChain.Lawful.enlist {g : GrantChain} (law : g.Lawful) {r : OpenGrant} (room : g.opened.length < 2)
    (fresh : ∀ x ∈ g.opened, x.tag ≠ r.tag) : (g.enlist r).Lawful := by
  obtain ⟨-, tags, reserved⟩ := law
  refine ⟨?_, ?_, ?_⟩
  · simpa [GrantChain.enlist] using room
  · simpa [GrantChain.enlist, List.nodup_append, tags] using fresh
  · simp [GrantChain.enlist, reserved]

/-- The record that leaves is the one with its tag: the list is what stands before it and behind it. -/
theorem GrantChain.Lawful.split_at {g : GrantChain} (law : g.Lawful) {r : OpenGrant} (member : r ∈ g.opened) :
    ∃ before after : List OpenGrant, g.opened = before ++ r :: after ∧ (g.release r).opened = before ++ after := by
  obtain ⟨-, tags, -⟩ := law
  obtain ⟨a, before, after, -, same, list, erased⟩ :=
    List.exists_of_eraseP (p := fun x => x.tag == r.tag) member (by simp)
  have at_a : a ∈ g.opened := by simp [list]
  obtain rfl : a = r := List.inj_on_of_nodup_map tags at_a member (by simpa using same)
  exact ⟨before, after, list, erased⟩

theorem GrantChain.Lawful.release {g : GrantChain} (law : g.Lawful) {r : OpenGrant} (member : r ∈ g.opened) :
    (g.release r).Lawful ∧ (g.release r).power + r.power = g.power := by
  obtain ⟨before, after, list, released⟩ := law.split_at member
  obtain ⟨length, tags, reserved⟩ := law
  have smaller : (g.release r).opened.Sublist g.opened := by
    rw [released, list]
    simp
  have sum : (g.release r).reserved = g.reserved - r.projected := rfl
  refine ⟨⟨smaller.length_le.trans length, tags.sublist (smaller.map _), ?_⟩, ?_⟩
  · rw [sum, reserved, list, released]
    simp
    omega
  · rw [GrantChain.power, GrantChain.power, released, list]
    simp
    omega

/-! ### The Grant Table -/

/-- The grant law is a law of the Grant Table. -/
def GrantTable.Lawful (g : GrantTable) : Prop :=
  (∀ c : Chain, g.chains[c].Lawful) ∧ g.poolSum = sumOverChains fun c => g.chains[c].power

theorem State.grantLaw_iff (s : State) : s.GrantLaw ↔ s.grants.Lawful := Iff.rfl

theorem GrantTable.Lawful.power_le {g : GrantTable} (law : g.Lawful) (c : Chain) : g.chains[c].power ≤ g.poolSum := by
  rw [law.2]
  have without := sumOverChains_of_update (f := fun d => g.chains[d].power)
    (g := fun d => if d = c then 0 else g.chains[d].power) c (fun d hd => if_neg hd)
  simp only [if_true] at without
  omega

/-- One chain's list changes for another lawful one, and the pool sum by what its powers change. -/
theorem GrantTable.Lawful.set_chain {g : GrantTable} (law : g.Lawful) (c : Chain) {x : GrantChain} {n : Nat}
    (lawful : x.Lawful) (sum : n + g.chains[c].power = g.poolSum + x.power) :
    GrantTable.Lawful ⟨g.chains.set c x, n⟩ := by
  obtain ⟨chains, pool⟩ := law
  refine ⟨fun d => ?_, ?_⟩
  · rw [getElem_set_fin]
    split
    next => exact lawful
    next => exact chains d
  · have moved := sumOverChains_of_update (f := fun d => g.chains[d].power)
      (g := fun d => (g.chains.set c x)[d].power) c (fun d hd => by rw [getElem_set_fin, if_neg hd])
    simp only [getElem_set_fin, if_true] at moved
    simp only [getElem_set_fin]
    omega

theorem GrantTable.Lawful.zero : GrantTable.Lawful ⟨Vector.replicate 4 GrantChain.zero, 0⟩ := by
  refine ⟨fun c => ?_, ?_⟩
  · simpa using GrantChain.zero_lawful
  · simp [sumOverChains, GrantChain.power, GrantChain.zero]

theorem GrantTable.Lawful.emptied (g : GrantTable) : g.emptied.Lawful := by
  refine ⟨fun c => ?_, ?_⟩
  · simp [GrantTable.emptied, GrantChain.Lawful]
  · simp [GrantTable.emptied, sumOverChains, GrantChain.power]

/-- A counter beside the list is free. -/
theorem GrantTable.Lawful.set_lateCloses {g : GrantTable} (law : g.Lawful) (c : Chain) (n : Nat) :
    GrantTable.Lawful { g with chains := g.chains.set c { g.chains[c] with lateCloses := n } } :=
  law.set_chain c (law.1 c) rfl

theorem GrantTable.Lawful.removed {s : State} (law : s.grants.Lawful) {c : Chain} {r : OpenGrant}
    (member : r ∈ s.grants.chains[c].opened) : (s.removeGrant c r).grants.Lawful := by
  obtain ⟨lawful, sum⟩ := (law.1 c).release member
  have within := law.power_le c
  exact law.set_chain c lawful (by omega)

/-! ### What opens and closes records -/

theorem State.closeRecord_grants (s : State) (c : Chain) (g : OpenGrant) (pact dact r : Nat) :
    (s.closeRecord c g pact dact r).grants = (s.removeGrant c g).grants := by
  unfold State.closeRecord
  dsimp only
  repeat' split
  all_goals simp

theorem State.lapseGrant_grants (s : State) (c : Chain) (g : OpenGrant) :
    (s.lapseGrant c g).grants = (s.removeGrant c g).grants := by
  simp [State.lapseGrant]

theorem State.issueOrWithhold_cases (s : State) (c : Chain) (chain tag : Byte) (preq d cls : Nat) (factor : Factor)
    (g : Option Nat) :
    (codeBelow g s.context.current.chains[c].minimum = true ∧
      s.issueOrWithhold c chain tag preq d cls factor g = s.withhold c chain tag .belowMin factor cls) ∨
    ∃ p : Nat, g = some p ∧ s.context.current.chains[c].minimum ≤ p ∧
      s.issueOrWithhold c chain tag preq d cls factor g =
        ⟨(s.setEngine c ((s.engine[c]).countIssued (decide (p < preq)) factor)).openGrant c (s.newGrant tag p d),
          grantedRecord chain tag p preq factor cls (s.framed c)⟩ := by
  cases g with
  | none => exact .inl ⟨rfl, rfl⟩
  | some p =>
    by_cases low : p < s.context.current.chains[c].minimum
    · exact .inl ⟨decide_eq_true low, by rw [State.issueOrWithhold, if_pos low]⟩
    · exact .inr ⟨p, rfl, Nat.le_of_not_lt low, by rw [State.issueOrWithhold, if_neg low]⟩

theorem chainOf_eq_some_iff {b : Byte} {c : Chain} : chainOf b = some c ↔ b.toNat = c.val := by
  refine ⟨fun h => ?_, chainOf_eq_some⟩
  rw [chainOf] at h
  split at h
  · cases h
    rfl
  · cases h

/-- A request that is not refused names a chain whose list has room, and a tag the list does not hold (R17). -/
theorem State.refusalOf_eq_none_iff (s : State) (chain tag : Byte) (d : Nat) :
    s.refusalOf chain tag d = none ↔ ∃ c : Chain, chainOf chain = some c ∧ d ≠ 0 ∧
      s.grants.chains[c].opened.length < 2 ∧ ∀ g ∈ s.grants.chains[c].opened, g.tag ≠ tag := by
  rw [State.refusalOf]
  cases chainOf chain with
  | none => simp
  | some c =>
    simp only [Option.some.injEq, exists_eq_left']
    split_ifs <;> simp_all
    omega

/-- What a request that is not refused comes to: the chain is disabled, or its class decides (R16, R18). -/
theorem State.takeRequest_of_accepted {s : State} {chain tag : Byte} {d : Nat} {c : Chain}
    (valid : chainOf chain = some c) (accepted : s.refusalOf chain tag d = none) (preq : Nat) (desc : Descriptor) :
    s.takeRequest chain tag preq d desc =
      if s.context.current.chains[c].enabled then
        s.decision c chain tag preq d (s.classify desc).1 (s.classify desc).2
      else s.withhold c chain tag .disabled .policy 0 := by
  rw [State.takeRequest, accepted, valid]

theorem State.takeRequest_of_refused {s : State} {chain tag : Byte} {d : Nat} {code : RefusalCode}
    (refused : s.refusalOf chain tag d = some code) (preq : Nat) (desc : Descriptor) :
    s.takeRequest chain tag preq d desc = ⟨s, refusedRecord chain tag code⟩ := by
  rw [State.takeRequest, refused]

/-- A decision withholds, or issues at its candidate (R27 to R30). -/
theorem State.decision_cases (s : State) (c : Chain) (chain tag : Byte) (preq d : Nat) (cls : Fin 8)
    (k : ClassEntry) :
    s.decision c chain tag preq d cls k = s.withhold c chain tag .trip .thermal cls.val ∨
    ∃ (factor : Factor) (g : Candidate),
      (s.thermal.isTripped c = true ∧ k.tripPass = true ∧ 0 < k.floor ∧ g = tripPath (s.ceilings c k d) preq k.floor ∨
        g = floorStep (s.ceilings c k d) preq k.floor ∧ s.thermal.isTripped c = false) ∧
      s.decision c chain tag preq d cls k = s.issueOrWithhold c chain tag preq d cls.val factor g.code := by
  rw [State.decision]
  cases tripped : s.thermal.isTripped c
  · exact .inr ⟨_, _, .inr ⟨rfl, rfl⟩, rfl⟩
  · by_cases pass : k.tripPass = true ∧ 0 < k.floor
    · exact .inr ⟨_, _, .inl ⟨rfl, pass.1, pass.2, rfl⟩, by rw [if_pos rfl, if_pos pass]⟩
    · exact .inl (by rw [if_pos rfl, if_neg pass])

/-- A request leaves the Grant Table, or opens one record on a chain with room for its tag. -/
theorem State.takeRequest_grants_cases (s : State) (chain tag : Byte) (preq d : Nat) (desc : Descriptor) :
    (s.takeRequest chain tag preq d desc).state.grants = s.grants ∨
    ∃ (c : Chain) (p : Nat), s.grants.chains[c].opened.length < 2 ∧
      (∀ g ∈ s.grants.chains[c].opened, g.tag ≠ tag) ∧
      (s.takeRequest chain tag preq d desc).state.grants = (s.openGrant c (s.newGrant tag p d)).grants := by
  cases refusal : s.refusalOf chain tag d with
  | some code => exact .inl (by rw [State.takeRequest_of_refused refusal])
  | none =>
    obtain ⟨c, valid, -, room, fresh⟩ := (s.refusalOf_eq_none_iff chain tag d).mp refusal
    rw [State.takeRequest_of_accepted valid refusal]
    split
    next =>
      obtain withheld | ⟨factor, g, -, issued⟩ :=
        s.decision_cases c chain tag preq d (s.classify desc).1 (s.classify desc).2
      · exact .inl (by rw [withheld]; simp)
      · rw [issued]
        obtain ⟨-, low⟩ | ⟨p, -, -, opened⟩ :=
          s.issueOrWithhold_cases c chain tag preq d (s.classify desc).1.val factor g.code
        · exact .inl (by rw [low]; simp)
        · exact .inr ⟨c, p, room, fresh, by rw [opened]; simp [State.openGrant_grants]⟩
    next => exact .inl (by simp)

theorem State.takeRequest_keeps_grants {s : State} (law : s.grants.Lawful) (chain tag : Byte) (preq d : Nat)
    (desc : Descriptor) : (s.takeRequest chain tag preq d desc).state.grants.Lawful := by
  obtain same | ⟨c, p, room, fresh, opened⟩ := s.takeRequest_grants_cases chain tag preq d desc
  · rwa [same]
  · rw [opened]
    refine law.set_chain c ((law.1 c).enlist room fresh) ?_
    simp [GrantChain.power, GrantChain.enlist]
    omega

theorem State.closeOn_keeps_grants {s : State} (law : s.grants.Lawful) (c : Chain) (tag : Byte) (pact dact r : Nat) :
    (s.closeOn c tag pact dact r).state.grants.Lawful := by
  rw [State.closeOn]
  split
  next => exact law.set_lateCloses c _
  next oldest younger list =>
    split
    next =>
      rw [State.closeRecord_grants]
      exact law.removed (list ▸ List.mem_cons_self)
    next other =>
      split
      next => exact law.set_lateCloses c _
      next g found =>
        rw [State.closeRecord_grants]
        have lapsed : (s.lapseGrant c oldest).grants.Lawful := by
          rw [State.lapseGrant_grants]
          exact law.removed (list ▸ List.mem_cons_self)
        refine lapsed.removed ?_
        rw [State.lapseGrant_grants, State.removeGrant_grants, getElem_set_fin, if_pos rfl]
        rw [GrantChain.release, list, List.eraseP_cons_of_pos (by simp)]
        exact List.mem_of_find?_eq_some found

theorem State.takeLapse_keeps_grants {s : State} (law : s.grants.Lawful) (c : Chain) (tag : Byte) :
    (s.takeLapse c tag).grants.Lawful := by
  rw [State.takeLapse]
  split
  next => exact law
  next g found =>
    rw [State.lapseGrant_grants]
    exact law.removed (List.mem_of_find?_eq_some found)

/-! ### The law -/

theorem reset_grantLaw : State.reset.GrantLaw :=
  GrantTable.Lawful.zero

theorem readChainBlock_keeps_grants {s : State} (law : s.grants.Lawful) (p : List Byte) :
    (readChainBlock p s).state.grants.Lawful := by
  unfold readChainBlock
  split
  next => exact law
  next c clear _ =>
    cases clear
    case false => exact law
    case true => exact law.set_lateCloses c 0

theorem exec_keeps_grantLaw (c : Instr) (s : State) (law : s.GrantLaw) :
    ∀ t : State, exec c s = .next t → t.GrantLaw := by
  by_cases mayChange : Part.grants ∈ touched c
  case neg =>
    intro t next
    have same : t.grants = s.grants := exec_untouched next mayChange
    rw [State.grantLaw_iff] at law ⊢
    rwa [same]
  case pos =>
    cases c <;> simp [touched] at mayChange
    case powerOn a w k =>
      rw [powerOnSamplesTheLines a w k s]
      exact leads_of_next reset_grantLaw
    case rstNAssert =>
      rw [heldPartStaysInPowerOnState.2.2 s]
      exact leads_of_next reset_grantLaw
    case burstReq chain tag preq d desc =>
      exact leads_of_unlessHeld law fun _ => State.takeRequest_keeps_grants law _ _ _ _ _
    case burstClose chain tag pact d r =>
      refine leads_of_unlessHeld law fun _ => ?_
      split
      next => exact law
      next c _ => exact State.closeOn_keeps_grants law c tag _ _ _
    case linkReset =>
      exact leads_of_unlessHeld law fun _ => GrantTable.Lawful.emptied _
    case lapse c tag =>
      exact leads_of_unlessHeld law fun _ => State.takeLapse_keeps_grants law c tag
    case readChain p =>
      exact policyCommand_keeps rfl law (fun _ _ _ kept => kept) fun _ => readChainBlock_keeps_grants law p
    case softReset p =>
      refine policyCommand_keeps rfl law (fun _ _ _ kept => kept) fun _ => ?_
      obtain ⟨-, -, grants, -⟩ := s.softReset_blocks
      rw [State.grantLaw_iff]
      simp only [blockOf, softResetBlock, State.accept_eq, grants]
      exact GrantTable.Lawful.zero

/-- Settles O53: records come and go one at a time, with the figures the sums count. -/
theorem stepKeepsGrantLaw : Obligations.StepKeepsGrantLaw := by
  unfold Obligations.StepKeepsGrantLaw
  exact step_keeps_of_exec (fun _ _ law => law) exec_keeps_grantLaw

end Sys2Proof.Machine
end

section
/-! Proofs about chapter 13: what an image of acceptable sections reads as (R178, R180). -/

namespace Sys2Proof.Machine

/-! ### Bytes and figures of a section's payload -/

theorem contentAt_lt (b : List Byte) (i : Nat) : contentAt b i < 256 :=
  (b.getD i 0).isLt

/-- Inside a section's payload a byte is the contents area's at its place. -/
theorem sectionPayload_getD {size j : Nat} (inside : j < size) (b : List Byte) (offset i : Nat) :
    (sectionPayload b offset size i).getD j 0 = b.getD (offset + size * i + j) 0 := by
  simp [sectionPayload, List.getD_eq_getElem?_getD, inside]

theorem byteAt_sectionPayload {size j : Nat} (inside : j < size) (b : List Byte) (offset i : Nat) :
    byteAt (sectionPayload b offset size i) j = contentAt b (offset + size * i + j) := by
  rw [byteAt, sectionPayload_getD inside, contentAt]

theorem fieldAt_two (p : List Byte) (i : Nat) : fieldAt p i 2 = byteAt p i * 256 + byteAt p (i + 1) := by
  simp [fieldAt]

theorem fieldAt_three (p : List Byte) (i : Nat) :
    fieldAt p i 3 = byteAt p i * 65536 + byteAt p (i + 1) * 256 + byteAt p (i + 2) := by
  simp only [fieldAt, Nat.add_zero]
  omega

theorem fieldAt_five (p : List Byte) (i : Nat) :
    fieldAt p i 5 = byteAt p i * 2 ^ 32 + byteAt p (i + 1) * 2 ^ 24 + byteAt p (i + 2) * 2 ^ 16
      + byteAt p (i + 3) * 2 ^ 8 + byteAt p (i + 4) := by
  simp only [fieldAt, Nat.add_zero]
  omega

theorem byteAt_lt (p : List Byte) (i : Nat) : byteAt p i < 256 :=
  (p.getD i 0).isLt

/-- Two's complement of a figure below 2^16. -/
theorem toInt_ofNat_16 {w : Nat} (h : w < 65536) :
    (BitVec.ofNat 16 w).toInt = if w < 32768 then (w : Int) else (w : Int) - 65536 := by
  rw [BitVec.toInt_eq_toNat_cond, BitVec.toNat_ofNat, Nat.mod_eq_of_lt (by simpa using h)]
  split_ifs <;> omega

/-- A clamped temperature field of a section's payload is the contents area's temperature at its place. -/
theorem clampTemp_signedAt {b p : List Byte} {i j : Nat} (high : byteAt p i = contentAt b j)
    (low : byteAt p (i + 1) = contentAt b (j + 1)) : clampTemp (signedAt p i) = tempAt b j := by
  have field : fieldAt p i 2 = wordAt b j := by rw [fieldAt_two, high, low, wordAt]
  have below : wordAt b j < 65536 := by
    have h := contentAt_lt b j
    have l := contentAt_lt b (j + 1)
    rw [wordAt]
    omega
  rw [clampTemp, clampInt, signedAt, field, toInt_ofNat_16 below, tempAt]

/-! ### What the operand forms accept -/

theorem indexBelow_eq_some_iff {n v : Nat} {i : Fin n} : indexBelow n v = some i ↔ v = i.val := by
  rw [indexBelow]
  split
  next inside => simp [Fin.ext_iff]
  next outside =>
    have other : v ≠ i.val := fun h => outside (h ▸ i.isLt)
    simp [other]

theorem indexBelow_eq_none_iff {n v : Nat} : indexBelow n v = none ↔ n ≤ v := by
  rw [indexBelow]
  split <;> simp_all

theorem collect_eq_some_iff {α : Type} {n : Nat} {f : Fin n → Option α} {v : Vector α n} :
    collect f = some v ↔ ∀ i : Fin n, f i = some v[i] := by
  rw [collect]
  split
  next all =>
    simp only [Option.some.injEq]
    constructor
    · rintro rfl i
      simp
    · intro h
      ext i hi
      have := h ⟨i, hi⟩
      simp [this]
  next gap =>
    simp only [reduceCtorEq, false_iff]
    intro h
    exact gap fun i => by simp [h i]

theorem atPlace_eq_some_iff {α : Type} {n : Nat} {i : Fin n} {o : Option (Fin n × α)} {a : α} :
    atPlace i o = some a ↔ o = some (i, a) := by
  cases o with
  | none => simp [atPlace]
  | some x =>
    obtain ⟨j, y⟩ := x
    by_cases same : j = i <;> simp [atPlace, same]

theorem stepPeriodOf_eq_some_iff {v : Nat} {p : StepPeriod} :
    stepPeriodOf v = some p ↔ (v, p) ∈ [(0, StepPeriod.ms62), (1, .ms125), (2, .ms250), (3, .ms500)] := by
  unfold stepPeriodOf
  split <;> cases p <;> simp_all

theorem bucketPeriodOf_eq_some_iff {v : Nat} {p : BucketPeriod} :
    bucketPeriodOf v = some p ↔ (v, p) ∈ [(0, BucketPeriod.ms31), (1, .ms62), (2, .ms125), (3, .ms250)] := by
  unfold bucketPeriodOf
  split <;> cases p <;> simp_all

theorem rampOf_eq_some_iff {v : Nat} {r : Ramp} :
    rampOf v = some r ↔ (v, r) ∈ [(0, Ramp.hold), (1, .slope), (2, .accel)] := by
  unfold rampOf
  split <;> cases r <;> simp_all

theorem parseSensorCal_eq_some_iff {p : List Byte} {i : Input} {k : Calibration} :
    parseSensorCal p = some (i, k) ↔ byteAt p 0 = i.val ∧
      k = ⟨fieldAt p 1 2, min (fieldAt p 3 2) 4095, clampTemp (signedAt p 5)⟩ := by
  simp only [parseSensorCal, Option.map_eq_some_iff, Prod.mk.injEq, indexBelow_eq_some_iff]
  constructor
  · rintro ⟨j, index, rfl, rfl⟩
    exact ⟨index, rfl⟩
  · rintro ⟨index, rfl⟩
    exact ⟨i, index, rfl, rfl⟩

theorem parseThermal_eq_some_iff {p : List Byte} {x : ThermalPayload} :
    parseThermal p = some x ↔ byteAt p 0 = x.chain.val ∧ stepPeriodOf (byteAt p 14) = some x.period ∧
      (thermalCoeffsOf p).knee < (thermalCoeffsOf p).trip ∧ x.coeffs = thermalCoeffsOf p ∧
      x.fallback = clampTemp (signedAt p 12) := by
  obtain ⟨chain, coeffs, fallback, period⟩ := x
  rw [parseThermal]
  split
  next c q index selector =>
    rw [selector]
    rw [indexBelow_eq_some_iff] at index
    split
    next => simp only [Option.some.injEq, ThermalPayload.mk.injEq, index, Fin.ext_iff]; tauto
    next => simp_all
  next none_of =>
    simp only [reduceCtorEq, false_iff]
    rintro ⟨index, selector, -⟩
    exact none_of _ _ (indexBelow_eq_some_iff.mpr index) selector

theorem getLsbD_zero_byteAt (p : List Byte) (i : Nat) : (p.getD i 0).getLsbD 0 = (byteAt p i % 2 == 1) := by
  rw [byteAt, BitVec.getLsbD, Nat.testBit_zero, beq_eq_decide]

theorem getLsbD_one_byteAt {p : List Byte} {i : Nat} (low : byteAt p i ≤ 3) :
    (p.getD i 0).getLsbD 1 = (byteAt p i / 2 == 1) := by
  have bit : byteAt p i / 2 % 2 = byteAt p i / 2 := by omega
  rw [BitVec.getLsbD, Nat.testBit_succ, Nat.testBit_zero, ← byteAt, bit, beq_eq_decide]

theorem parseClass_eq_some_iff {p : List Byte} {k : Fin 8} {e : ClassEntry} :
    parseClass p = some (k, e) ↔ byteAt p 0 = k.val ∧ byteAt p 2 ≤ 3 ∧
      e = ⟨byteAt p 1, byteAt p 2 % 2 == 1, byteAt p 2 / 2 == 1⟩ := by
  rw [parseClass]
  split
  next outside =>
    rw [indexBelow_eq_none_iff] at outside
    simp only [reduceCtorEq, false_iff]
    omega
  next j index =>
    rw [indexBelow_eq_some_iff] at index
    split
    next flags =>
      rw [getLsbD_zero_byteAt, getLsbD_one_byteAt flags]
      simp only [Option.some.injEq, Prod.mk.injEq, index, Fin.ext_iff, flags, true_and]
      tauto
    next flags => simp [flags]

theorem parseServiceMap_eq_some_iff {p : List Byte} {v : Vector (Fin 8) 5} :
    parseServiceMap p = some v ↔ ∀ i : Fin 5, byteAt p i.val = v[i].val := by
  rw [parseServiceMap]
  split
  next a b c d e ha hb hc hd he =>
    rw [indexBelow_eq_some_iff] at ha hb hc hd he
    constructor
    · intro h
      cases h
      simp only [Fin.forall_fin_succ]
      exact ⟨ha, hb, hc, hd, he, fun i => i.elim0⟩
    · intro h
      refine congrArg some (Vector.ext fun i hi => Fin.ext ?_)
      rw [← Fin.getElem_fin v ⟨i, hi⟩, ← h ⟨i, hi⟩]
      interval_cases i
      exacts [ha.symm, hb.symm, hc.symm, hd.symm, he.symm]
  next gap =>
    simp only [reduceCtorEq, false_iff]
    intro h
    have at_place : ∀ i : Fin 5, indexBelow 8 (byteAt p i.val) = some v[i] := fun i =>
      indexBelow_eq_some_iff.mpr (h i)
    exact gap _ _ _ _ _ (at_place 0) (at_place 1) (at_place 2) (at_place 3) (at_place 4)

theorem parseMatcher_eq_some_iff {p : List Byte} {i : Fin 6} {e : MatcherEntry} :
    parseMatcher p = some (i, e) ↔ byteAt p 0 = i.val ∧ byteAt p 18 = e.cls.val ∧ byteAt p 1 ≤ 1 ∧
      e.enable = (byteAt p 1 == 1) ∧ e.mask = descriptorAt p 2 ∧ e.value = descriptorAt p 10 := by
  obtain ⟨enable, mask, value, cls⟩ := e
  rw [parseMatcher]
  split
  next j k index hcls =>
    rw [indexBelow_eq_some_iff] at index hcls
    split
    next low =>
      simp only [Option.some.injEq, Prod.mk.injEq, MatcherEntry.mk.injEq, index, hcls, Fin.ext_iff, low]
      tauto
    next => simp_all
  next gap =>
    simp only [reduceCtorEq, false_iff]
    rintro ⟨index, hcls, -⟩
    exact gap _ _ (indexBelow_eq_some_iff.mpr index) (indexBelow_eq_some_iff.mpr hcls)

theorem parseStep_eq_some_iff {p : List Byte} {i : Fin 24} {x : ProgramStep} :
    parseStep p = some (i, x) ↔ byteAt p 0 = i.val ∧ rampOf (byteAt p 3) = some x.ramp ∧ byteAt p 6 ≤ 15 ∧
      byteAt p 7 ≤ 1 ∧ x = ⟨min (byteAt p 1) 127, max (byteAt p 2) 1, x.ramp, min (byteAt p 4) 15,
        min (byteAt p 5) 15, BitVec.ofNat 4 (byteAt p 6), byteAt p 7 == 1⟩ := by
  obtain ⟨target, dwell, ramp, accel, leap, mask, frame⟩ := x
  rw [parseStep]
  split
  next j r index hramp =>
    rw [indexBelow_eq_some_iff] at index
    rw [hramp]
    split
    next low =>
      simp only [Option.some.injEq, Prod.mk.injEq, ProgramStep.mk.injEq, index, Fin.ext_iff, low]
      tauto
    next => simp only [reduceCtorEq, false_iff]; tauto
  next gap =>
    simp only [reduceCtorEq, false_iff]
    rintro ⟨index, hramp, -⟩
    exact gap _ _ (indexBelow_eq_some_iff.mpr index) hramp

theorem parseSequencer_eq_some_iff {p : List Byte} {x : SequencerSettings} :
    parseSequencer p = some x ↔
      byteAt p 0 ≠ 0 ∧ x = ⟨byteAt p 0, fieldAt p 1 2, byteAt p 3, min (byteAt p 4) 6⟩ := by
  rw [parseSequencer]
  split
  next zero => simp [zero]
  next nonzero => rw [Option.some.injEq, eq_comm, and_iff_right nonzero]

theorem parseRun_eq_some_iff {p : List Byte} {i : Nat} {r : RunParams} :
    parseRun p i = some r ↔
      byteAt p i = r.start.val ∧ byteAt p (i + 1) = r.stop.val ∧ r.repeats = byteAt p (i + 2) := by
  obtain ⟨start, stop, repeats⟩ := r
  rw [parseRun]
  split
  next a b ha hb =>
    rw [indexBelow_eq_some_iff] at ha hb
    simp only [Option.some.injEq, RunParams.mk.injEq, ha, hb, Fin.ext_iff]
    tauto
  next gap =>
    simp only [reduceCtorEq, false_iff]
    rintro ⟨ha, hb, -⟩
    exact gap _ _ (indexBelow_eq_some_iff.mpr ha) (indexBelow_eq_some_iff.mpr hb)

theorem parseTrigger_eq_some_iff {p : List Byte} {i : Fin 3} {r : RunParams} :
    parseTrigger p = some (i, r) ↔ byteAt p 0 = i.val ∧ parseRun p 1 = some r := by
  rw [parseTrigger]
  split
  next j x index run =>
    rw [indexBelow_eq_some_iff] at index
    simp only [Option.some.injEq, Prod.mk.injEq, index, run, Fin.ext_iff]
  next gap =>
    simp only [reduceCtorEq, false_iff]
    rintro ⟨index, run⟩
    exact gap _ _ (indexBelow_eq_some_iff.mpr index) run

theorem parseSetChain_eq_some_iff {p : List Byte} {c : Chain} {x : ChainPolicy} :
    parseSetChain p = some (c, x) ↔ byteAt p 0 = c.val ∧ byteAt p 1 ≤ 1 ∧ byteAt p 3 ≤ byteAt p 2 ∧
      x = ⟨byteAt p 1 == 1, byteAt p 2, byteAt p 3, fieldAt p 4 5⟩ := by
  rw [parseSetChain]
  split
  next outside =>
    rw [indexBelow_eq_none_iff] at outside
    simp only [reduceCtorEq, false_iff]
    omega
  next j index =>
    rw [indexBelow_eq_some_iff] at index
    split
    next low =>
      simp only [Option.some.injEq, Prod.mk.injEq, index, Fin.ext_iff, low, true_and]
      tauto
    next => simp only [reduceCtorEq, false_iff]; tauto

theorem parseTriggerEnable_eq_some_iff {v : Nat} {m : BitVec 3} : parseTriggerEnable v = some m ↔ m.toNat = v := by
  rw [parseTriggerEnable]
  split
  next low =>
    rw [Option.some.injEq, ← BitVec.toNat_inj, BitVec.toNat_ofNat, Nat.mod_eq_of_lt (by omega), eq_comm]
  next =>
    simp only [reduceCtorEq, false_iff]
    omega

theorem parseEventMask_eq_some_iff {p : List Byte} {m : BitVec 9} :
    parseEventMask p = some m ↔ m.toNat = fieldAt p 0 2 := by
  rw [parseEventMask]
  split
  next low =>
    rw [Option.some.injEq, ← BitVec.toNat_inj, BitVec.toNat_ofNat, Nat.mod_eq_of_lt (by omega), eq_comm]
  next =>
    simp only [reduceCtorEq, false_iff]
    omega

theorem parseWindowShape_eq_some_iff {p : List Byte} {x : WindowShape} :
    parseWindowShape p = some x ↔ x.count = byteAt p 0 ∧ 8 ≤ byteAt p 0 ∧ byteAt p 0 ≤ 32 ∧
      bucketPeriodOf (byteAt p 1) = some x.period := by
  obtain ⟨count, period⟩ := x
  rw [parseWindowShape]
  split
  next inside =>
    simp only [Option.map_eq_some_iff, WindowShape.mk.injEq, inside, true_and]
    constructor
    · rintro ⟨q, selector, rfl, rfl⟩
      exact ⟨rfl, selector⟩
    · rintro ⟨rfl, selector⟩
      exact ⟨_, selector, rfl, rfl⟩
  next => simp only [reduceCtorEq, false_iff]; tauto

/-! ### The thirteen sections -/

/-- The contents are those of the sections, each parsed at its place; the thermal payloads give the coefficients
and, from chain 3, the fallback and the step period. -/
theorem parseContents_eq_some_iff {b : List Byte} {k : Contents} :
    parseContents b = some k ↔
      collect (fun i : Fin 5 => atPlace i (parseSensorCal (sectionPayload b 0 7 i.val))) = some k.sensors ∧
      (∃ thermal : Vector ThermalPayload 4, imageThermal b = some thermal ∧
        k.coeffs = Vector.ofFn (fun c : Fin 4 => thermal[c].coeffs) ∧ k.fallback = thermal[3].fallback ∧
        k.stepPeriod = thermal[3].period) ∧
      collect (fun i : Fin 8 => atPlace i (parseClass (sectionPayload b 95 3 i.val))) = some k.classes ∧
      parseServiceMap (sectionPayload b 119 5 0) = some k.service ∧
      collect (fun i : Fin 6 => atPlace i (parseMatcher (sectionPayload b 124 19 i.val))) = some k.matchers ∧
      collect (fun i : Fin 24 => atPlace i (parseStep (sectionPayload b 238 8 i.val))) = some k.program ∧
      parseSequencer (sectionPayload b 430 5 0) = some k.sequencer ∧
      collect (fun i : Fin 3 => atPlace i (parseTrigger (sectionPayload b 435 4 i.val))) = some k.triggers ∧
      imageContext b = some k.context ∧
      parseWindowShape (sectionPayload b 488 2 0) = some k.shape ∧
      k.overload = parseOverload (sectionPayload b 490 6 0) ∧
      k.mismatch = parseMismatch (sectionPayload b 496 4 0) ∧
      parseEventMask (sectionPayload b 500 2 0) = some k.alertMask := by
  rw [parseContents]
  constructor
  · intro h
    split at h
    next sensors thermal classes service matchers program sequencer triggers context shape alertMask
        h1 h2 h3 h4 h5 h6 h7 h8 h9 h10 h11 =>
      cases h
      exact ⟨h1, ⟨thermal, h2, rfl, rfl, rfl⟩, h3, h4, h5, h6, h7, h8, h9, h10, rfl, rfl, h11⟩
    next => cases h
  · rintro ⟨h1, ⟨thermal, h2, hc, hf, hp⟩, h3, h4, h5, h6, h7, h8, h9, h10, ho, hm, h11⟩
    rw [h1, h2, h3, h4, h5, h6, h7, h8, h9, h10, h11]
    cases k
    simp only at hc hf hp ho hm
    simp only [hc, hf, hp, ho, hm]

theorem imageThermal_eq_some_iff {b : List Byte} {thermal : Vector ThermalPayload 4} :
    imageThermal b = some thermal ↔
      ∀ c : Fin 4, parseThermal (sectionPayload b 35 15 c.val) = some thermal[c] ∧ thermal[c].chain = c := by
  rw [imageThermal, collect_eq_some_iff]
  refine forall_congr' fun c => ?_
  cases parseThermal (sectionPayload b 35 15 c.val) with
  | none => simp
  | some x =>
    simp only [Option.some.injEq]
    split
    next here =>
      rw [Option.some.injEq]
      exact ⟨fun same => ⟨same, same ▸ here⟩, fun both => both.1⟩
    next elsewhere =>
      simp only [reduceCtorEq, false_iff]
      rintro ⟨rfl, here⟩
      exact elsewhere here

theorem thermalCoeffsOf_section (b : List Byte) (c : Fin 4) :
    let o := 35 + 15 * c.val
    thermalCoeffsOf (sectionPayload b 35 15 c.val) = ⟨wordAt b (o + 1), contentAt b (o + 3),
      min (contentAt b (o + 4)) 16, tempAt b (o + 6), tempAt b (o + 8), min (wordAt b (o + 10)) 640,
      contentAt b (o + 5)⟩ := by
  intro o
  have knee : clampTemp (signedAt (sectionPayload b 35 15 c.val) 6) = tempAt b (o + 6) :=
    clampTemp_signedAt (byteAt_sectionPayload (by decide) ..) (byteAt_sectionPayload (by decide) ..)
  have trip : clampTemp (signedAt (sectionPayload b 35 15 c.val) 8) = tempAt b (o + 8) :=
    clampTemp_signedAt (byteAt_sectionPayload (by decide) ..) (byteAt_sectionPayload (by decide) ..)
  rw [thermalCoeffsOf, knee, trip]
  simp [fieldAt_two, byteAt_sectionPayload, wordAt, o]

theorem thermalFallback_section (b : List Byte) (c : Fin 4) :
    clampTemp (signedAt (sectionPayload b 35 15 c.val) 12) = tempAt b (35 + 15 * c.val + 12) :=
  clampTemp_signedAt (byteAt_sectionPayload (by decide) ..) (byteAt_sectionPayload (by decide) ..)

theorem stepPeriodOf_isSome_iff {v : Nat} : (stepPeriodOf v).isSome = true ↔ v ≤ 3 := by
  constructor
  · intro some
    rcases v with _ | _ | _ | _ | v
    case succ.succ.succ.succ => cases some
    all_goals omega
  · intro low
    interval_cases v <;> rfl

/-- The four thermal payloads exist exactly when every chain's fields are acceptable, and only chain 3's give the
fallback and the step period. -/
theorem imageThermal_iff {b : List Byte} {k : Contents} :
    (∃ thermal : Vector ThermalPayload 4, imageThermal b = some thermal ∧
      k.coeffs = Vector.ofFn (fun c : Fin 4 => thermal[c].coeffs) ∧ k.fallback = thermal[3].fallback ∧
      k.stepPeriod = thermal[3].period) ↔
    (∀ c : Fin 4, byteAt (sectionPayload b 35 15 c.val) 0 = c.val ∧
      byteAt (sectionPayload b 35 15 c.val) 14 ≤ 3 ∧
      (thermalCoeffsOf (sectionPayload b 35 15 c.val)).knee < (thermalCoeffsOf (sectionPayload b 35 15 c.val)).trip ∧
      k.coeffs[c] = thermalCoeffsOf (sectionPayload b 35 15 c.val)) ∧
    k.fallback = clampTemp (signedAt (sectionPayload b 35 15 3) 12) ∧
    stepPeriodOf (byteAt (sectionPayload b 35 15 3) 14) = some k.stepPeriod := by
  constructor
  · rintro ⟨thermal, payloads, coeffs, fallback, period⟩
    rw [imageThermal_eq_some_iff] at payloads
    have fields := fun c => parseThermal_eq_some_iff.mp (payloads c).1
    refine ⟨fun c => ?_, ?_, ?_⟩
    · obtain ⟨index, selector, below, same, -⟩ := fields c
      rw [(payloads c).2] at index
      refine ⟨index, stepPeriodOf_isSome_iff.mp (selector ▸ rfl), below, ?_⟩
      rw [coeffs, getElem_ofFn_fin, same]
    · obtain ⟨-, -, -, -, same⟩ := fields 3
      exact fallback.trans same
    · obtain ⟨-, selector, -⟩ := fields 3
      rw [period]
      exact selector
  · rintro ⟨fields, fallback, period⟩
    have selected : ∀ c : Fin 4, ∃ q, stepPeriodOf (byteAt (sectionPayload b 35 15 c.val) 14) = some q := fun c =>
      Option.isSome_iff_exists.mp (stepPeriodOf_isSome_iff.mpr (fields c).2.1)
    choose periods selected using selected
    refine ⟨Vector.ofFn fun c : Fin 4 => ⟨c, k.coeffs[c], clampTemp (signedAt (sectionPayload b 35 15 c.val) 12),
      periods c⟩, ?_, ?_, ?_, ?_⟩
    · rw [imageThermal_eq_some_iff]
      intro c
      obtain ⟨index, -, below, coeffs⟩ := fields c
      rw [getElem_ofFn_fin, parseThermal_eq_some_iff]
      exact ⟨⟨index, selected c, below, coeffs, rfl⟩, rfl⟩
    · refine Vector.ext fun i hi => ?_
      simp
    · rw [fallback]
      rfl
    · exact Option.some.inj (period.symm.trans (selected 3))

theorem readsSensors_iff {b : List Byte} {k : Contents} :
    (collect (fun i : Fin 5 => atPlace i (parseSensorCal (sectionPayload b 0 7 i.val))) = some k.sensors ∧
      ∃ thermal : Vector ThermalPayload 4, imageThermal b = some thermal ∧
        k.coeffs = Vector.ofFn (fun c : Fin 4 => thermal[c].coeffs) ∧ k.fallback = thermal[3].fallback ∧
        k.stepPeriod = thermal[3].period) ↔ k.ReadsSensors b := by
  rw [imageThermal_iff, collect_eq_some_iff, Contents.ReadsSensors]
  refine and_congr (forall_congr' fun i => ?_) (and_congr (forall_congr' fun c => ?_) (and_congr ?_ ?_))
  · have base : clampTemp (signedAt (sectionPayload b 0 7 i.val) 5) = tempAt b (7 * i.val + 5) :=
      clampTemp_signedAt ((byteAt_sectionPayload (by decide) ..).trans (by rw [Nat.zero_add]))
        ((byteAt_sectionPayload (by decide) ..).trans (by rw [Nat.zero_add]))
    rw [atPlace_eq_some_iff, parseSensorCal_eq_some_iff, base]
    simp [fieldAt_two, byteAt_sectionPayload, wordAt]
  · rw [thermalCoeffsOf_section, byteAt_sectionPayload (by decide), byteAt_sectionPayload (by decide)]
    rfl
  · rw [show (3 : Nat) = (3 : Fin 4).val from rfl, thermalFallback_section]
    rfl
  · rw [byteAt_sectionPayload (by decide), stepPeriodOf_eq_some_iff]

theorem eq_descriptorAt_iff {m : Descriptor} {size j : Nat} (inside : j + 8 ≤ size) (b : List Byte) (offset i : Nat) :
    m = descriptorAt (sectionPayload b offset size i) j ↔
      ∀ n : Fin 8, m[n] = b.getD (offset + size * i + j + n.val) 0 := by
  have byte : ∀ n : Fin 8,
      (descriptorAt (sectionPayload b offset size i) j)[n] = b.getD (offset + size * i + j + n.val) 0 := fun n => by
    rw [descriptorAt, getElem_ofFn_fin, sectionPayload_getD (by omega), Nat.add_assoc _ j]
  simp only [← byte]
  exact ⟨fun same n => by rw [same], fun all => Vector.ext fun n hn => all ⟨n, hn⟩⟩

theorem readsClassifier_iff {b : List Byte} {k : Contents} :
    (collect (fun i : Fin 8 => atPlace i (parseClass (sectionPayload b 95 3 i.val))) = some k.classes ∧
      parseServiceMap (sectionPayload b 119 5 0) = some k.service ∧
      collect (fun i : Fin 6 => atPlace i (parseMatcher (sectionPayload b 124 19 i.val))) = some k.matchers) ↔
      k.ReadsClassifier b := by
  rw [collect_eq_some_iff, collect_eq_some_iff, parseServiceMap_eq_some_iff, Contents.ReadsClassifier]
  refine and_congr (forall_congr' fun i => ?_) (and_congr (forall_congr' fun i => ?_) (forall_congr' fun i => ?_))
  · simp [atPlace_eq_some_iff, parseClass_eq_some_iff, byteAt_sectionPayload]
  · rw [byteAt_sectionPayload i.isLt, eq_comm]
  · rw [atPlace_eq_some_iff, parseMatcher_eq_some_iff, eq_descriptorAt_iff (by decide),
      eq_descriptorAt_iff (by decide), byteAt_sectionPayload (by decide), byteAt_sectionPayload (by decide),
      byteAt_sectionPayload (by decide), eq_comm (b := k.matchers[i].cls.val)]
    simp only [Nat.add_zero, forall_and]
    tauto

theorem readsSequencer_iff {b : List Byte} {k : Contents} :
    (collect (fun i : Fin 24 => atPlace i (parseStep (sectionPayload b 238 8 i.val))) = some k.program ∧
      parseSequencer (sectionPayload b 430 5 0) = some k.sequencer ∧
      collect (fun i : Fin 3 => atPlace i (parseTrigger (sectionPayload b 435 4 i.val))) = some k.triggers) ↔
      k.ReadsSequencer b := by
  rw [collect_eq_some_iff, collect_eq_some_iff, parseSequencer_eq_some_iff, Contents.ReadsSequencer, and_assoc]
  refine and_congr (forall_congr' fun i => ?_) (and_congr ?_ (and_congr ?_ (forall_congr' fun i => ?_)))
  · simp [atPlace_eq_some_iff, parseStep_eq_some_iff, byteAt_sectionPayload, rampOf_eq_some_iff]
  · simp [byteAt_sectionPayload]
  · simp [byteAt_sectionPayload, fieldAt_two, wordAt]
  · rw [atPlace_eq_some_iff, parseTrigger_eq_some_iff, parseRun_eq_some_iff, eq_comm (b := k.triggers[i].start.val),
      eq_comm (b := k.triggers[i].stop.val)]
    simp [byteAt_sectionPayload]

theorem readsContext_iff {b : List Byte} {k : Contents} :
    imageContext b = some k.context ↔ k.ReadsContext b := by
  have whole : imageContext b = some k.context ↔
      collect (fun c : Fin 4 => atPlace c (parseSetChain (sectionPayload b 447 9 c.val))) = some k.context.chains ∧
      k.context.poolLimit = fieldAt b 483 3 ∧ k.context.lifetime = parseLifetime (byteAt b 486) ∧
      parseTriggerEnable (byteAt b 487) = some k.context.triggers := by
    rw [imageContext]
    split
    next chains triggers h1 h2 =>
      rw [h1, h2]
      cases k.context
      simp only [Option.some.injEq, Context.mk.injEq]
      tauto
    next gap =>
      simp only [reduceCtorEq, false_iff]
      rintro ⟨h1, -, -, h2⟩
      exact gap _ _ h1 h2
  rw [whole, collect_eq_some_iff, parseTriggerEnable_eq_some_iff, fieldAt_three, Contents.ReadsContext]
  refine and_congr (forall_congr' fun c => ?_) Iff.rfl
  simp [atPlace_eq_some_iff, parseSetChain_eq_some_iff, byteAt_sectionPayload, fieldAt_five]

theorem readsSettings_iff {b : List Byte} {k : Contents} :
    (parseWindowShape (sectionPayload b 488 2 0) = some k.shape ∧
      k.overload = parseOverload (sectionPayload b 490 6 0) ∧
      k.mismatch = parseMismatch (sectionPayload b 496 4 0) ∧
      parseEventMask (sectionPayload b 500 2 0) = some k.alertMask) ↔ k.ReadsSettings b := by
  rw [parseWindowShape_eq_some_iff, parseEventMask_eq_some_iff, bucketPeriodOf_eq_some_iff, Contents.ReadsSettings]
  simp [byteAt_sectionPayload, parseOverload, parseMismatch, fieldAt_two, fieldAt_three, wordAt, and_assoc]

/-- The thirteen sections are read each as its command reads its payload (R180, test 4). -/
theorem parseContents_iff_readsFrom {b : List Byte} {k : Contents} :
    parseContents b = some k ↔ k.ReadsFrom b := by
  rw [parseContents_eq_some_iff, Contents.ReadsFrom, ← readsSensors_iff, ← readsClassifier_iff, ← readsSequencer_iff,
    ← readsContext_iff, ← readsSettings_iff]
  simp only [and_assoc]

/-- The contents a load chooses are read from an image, or the built-in defaults. -/
theorem chosenContents_cases (flash : List Word16) :
    (∃ b : List Byte, (chosenContents flash).ReadsFrom b) ∨ chosenContents flash = Contents.builtIn := by
  rw [chosenContents]
  cases judged : judgeImage flash with
  | none => exact .inr rfl
  | some k =>
    refine .inl ⟨contentBytes flash, parseContents_iff_readsFrom.mp ?_⟩
    rw [judgeImage] at judged
    split_ifs at judged
    exact judged

/-- What holds of the built-in contents and of every image's is kept of the retained ones: power-on and the
assertion of RST_N retain none, a load completion its choice, and nothing else retains any (R181). -/
theorem exec_keeps_retained {Q : Contents → Prop} (defaults : Q Contents.builtIn)
    (image : ∀ (k : Contents) (b : List Byte), k.ReadsFrom b → Q k) (c : Instr) (s : State)
    (held : Q s.retainedContents) : ∀ t : State, exec c s = .next t → Q t.retainedContents := by
  by_cases mayChange : Part.loader ∈ touched c
  case neg =>
    intro t next
    have same : t.loader = s.loader := exec_untouched next mayChange
    rwa [State.retainedContents, same]
  case pos =>
    cases c <;> simp [touched, allParts] at mayChange
    case powerOn a w k =>
      rw [powerOnSamplesTheLines a w k s]
      exact leads_of_next defaults
    case rstNAssert => exact leads_of_next defaults
    case loadCompletion flash =>
      refine leads_of_unlessHeld held fun _ => ?_
      split
      next =>
        rw [State.retainedContents, (s.completeLoad_blocks _ _).1, Option.getD_some]
        obtain ⟨b, read⟩ | builtIn := chosenContents_cases flash
        · exact image _ b read
        · exact builtIn ▸ defaults
      next => exact held

end Sys2Proof.Machine
end

section
/-! Proofs about chapter 4: the window law (R9, R14, R59, R60). -/

namespace Sys2Proof.Machine

/-! ### Buckets and rings -/

/-- A bucket in its range: within the 32-bit maximum, and at it when pinned. -/
def Bucket.Lawful (b : Bucket) : Prop :=
  b.energy ≤ max32 ∧ (b.pinned = true → b.energy = max32)

theorem Bucket.clear_lawful : Bucket.Lawful ⟨0, false⟩ := by
  simp [Bucket.Lawful]

theorem Bucket.Lawful.add {b : Bucket} (law : b.Lawful) (a : Nat) :
    (b.add a).Lawful ∧ b.energy ≤ (b.add a).energy := by
  obtain ⟨bounded, pinned⟩ := law
  rw [Bucket.add]
  split
  next below =>
    refine ⟨⟨below.le, fun mark => ?_⟩, Nat.le_add_right ..⟩
    have full := pinned mark
    omega
  next => exact ⟨⟨le_rfl, fun _ => rfl⟩, bounded⟩

/-- One element of a list changes, and the sum with it. -/
theorem sum_map_set {α : Type} (f : α → Nat) (l : List α) (i : Nat) (inside : i < l.length) (x : α) :
    ((l.set i x).map f).sum + f l[i] = (l.map f).sum + f x := by
  induction l generalizing i with
  | nil => cases inside
  | cons a l ih =>
    cases i with
    | zero =>
      simp only [List.set_cons_zero, List.map_cons, List.sum_cons, List.getElem_cons_zero]
      omega
    | succ i =>
      have := ih i (by simpa using inside)
      simp only [List.set_cons_succ, List.map_cons, List.sum_cons, List.getElem_cons_succ]
      omega

/-- A bucket of a lawful account is replaced by another lawful one, and the sum follows it. -/
theorem WindowChain.Lawful.set_bucket {w : WindowChain} {n : Nat} (law : w.Lawful n) {i : Nat} (inside : i < n)
    {b : Bucket} (lawful : b.Lawful) {sum residue heatIn : Nat}
    (moved : sum + (w.ring.getD i ⟨0, false⟩).energy = w.sum + b.energy) (rest : residue < 64)
    (heat : heatIn ≤ max32) : WindowChain.Lawful ⟨w.ring.set i b, sum, residue, heatIn⟩ n := by
  obtain ⟨length, total, buckets, -, -⟩ := law
  have at_i : i < w.ring.length := length ▸ inside
  have replaced := sum_map_set (·.energy) w.ring i at_i b
  rw [List.getD_eq_getElem _ _ at_i] at moved
  refine ⟨by simpa using length, ?_, fun x hx => ?_, rest, heat⟩
  · simp only at replaced ⊢
    omega
  · obtain member | rfl := List.mem_or_eq_of_mem_set hx
    · exact buckets x member
    · exact lawful

theorem WindowChain.Lawful.bucket {w : WindowChain} {n : Nat} (law : w.Lawful n) (i : Nat) :
    (w.ring.getD i ⟨0, false⟩).Lawful := by
  obtain ⟨-, -, buckets, -, -⟩ := law
  rw [List.getD_eq_getElem?_getD]
  cases at_i : w.ring[i]? with
  | none => exact Bucket.clear_lawful
  | some b => exact buckets b (List.mem_of_getElem? at_i)

theorem WindowChain.Lawful.charge {w : WindowChain} {n : Nat} (law : w.Lawful n) {i : Nat} (inside : i < n)
    (p d : Nat) : (w.charge i p d).Lawful n := by
  have rest : w.chargeSum p d % 64 < 64 := Nat.mod_lt _ (by decide)
  obtain ⟨-, residue_only⟩ | ⟨-, charged⟩ := w.charge_cases i p d
  · rw [residue_only]
    obtain ⟨length, total, buckets, -, heat⟩ := law
    exact ⟨length, total, buckets, rest, heat⟩
  · rw [charged]
    obtain ⟨lawful, grown⟩ := (law.bucket i).add (w.chargeSum p d / 64)
    exact law.set_bucket inside lawful (by omega) rest (Nat.min_le_right ..)

theorem WindowChain.Lawful.bucket_le_sum {w : WindowChain} {n : Nat} (law : w.Lawful n) {i : Nat} (inside : i < n) :
    (w.ring.getD i ⟨0, false⟩).energy ≤ w.sum := by
  obtain ⟨length, total, -, -, -⟩ := law
  have at_i : i < w.ring.length := length ▸ inside
  have without := sum_map_set (·.energy) w.ring i at_i ⟨0, false⟩
  rw [List.getD_eq_getElem _ _ at_i, total]
  simp only at without
  omega

theorem WindowChain.Lawful.drop {w : WindowChain} {n : Nat} (law : w.Lawful n) {i : Nat} (inside : i < n) :
    (w.drop i).Lawful n := by
  have within := law.bucket_le_sum inside
  obtain ⟨-, -, -, rest, heat⟩ := id law
  refine law.set_bucket inside Bucket.clear_lawful ?_ rest heat
  simp only
  omega

theorem replicate_clear_lawful (n : Nat) {residue heatIn : Nat} (rest : residue < 64) (heat : heatIn ≤ max32) :
    WindowChain.Lawful ⟨List.replicate n ⟨0, false⟩, 0, residue, heatIn⟩ n := by
  refine ⟨by simp, by simp, fun b hb => ?_, rest, heat⟩
  rw [List.eq_of_mem_replicate hb]
  exact Bucket.clear_lawful

theorem WindowChain.Lawful.emptied {w : WindowChain} {n : Nat} (law : w.Lawful n) (m : Nat) :
    (w.emptied m).Lawful m := by
  obtain ⟨-, -, -, rest, heat⟩ := law
  exact replicate_clear_lawful m rest heat

/-! ### The Energy Window Unit -/

/-- The window law is a law of the Energy Window Unit, but for the retained shape. -/
def WindowUnit.Lawful (u : WindowUnit) : Prop :=
  (∀ c : Chain, u.chains[c].Lawful u.shape.count) ∧ u.current < u.shape.count ∧ u.shape.Lawful

theorem State.windowLaw_iff (s : State) :
    s.WindowLaw ↔ s.windows.Lawful ∧ s.retainedContents.shape.Lawful := by
  simp only [State.WindowLaw, WindowUnit.Lawful, and_assoc]

theorem WindowUnit.Lawful.charge {s : State} (law : s.windows.Lawful) (c : Chain) (p d : Nat) :
    (s.charge c p d).windows.Lawful := by
  obtain ⟨chains, current, shape⟩ := law
  refine ⟨fun e => ?_, current, shape⟩
  rw [State.charge_windows, getElem_set_fin]
  split
  next => exact (chains c).charge current p d
  next => exact chains e

theorem WindowUnit.Lawful.expire {u : WindowUnit} (law : u.Lawful) : u.expire.Lawful := by
  obtain ⟨chains, current, shape⟩ := law
  have inside : u.oldest < u.shape.count := Nat.mod_lt _ (Nat.zero_lt_of_lt current)
  refine ⟨fun c => ?_, inside, shape⟩
  rw [WindowUnit.expire, getElem_ofFn_fin]
  exact (chains c).drop inside

theorem WindowUnit.Lawful.heatTaken {u : WindowUnit} (law : u.Lawful) : u.heatTaken.Lawful := by
  obtain ⟨chains, current, shape⟩ := law
  refine ⟨fun c => ?_, current, shape⟩
  rw [WindowUnit.heatTaken, getElem_ofFn_fin]
  obtain ⟨length, total, buckets, rest, -⟩ := chains c
  exact ⟨length, total, buckets, rest, Nat.zero_le _⟩

theorem WindowUnit.Lawful.reshape {u : WindowUnit} (law : u.Lawful) {shape : WindowShape} (lawful : shape.Lawful) :
    (u.reshape shape).Lawful := by
  obtain ⟨chains, -, -⟩ := law
  refine ⟨fun c => ?_, Nat.zero_lt_of_lt lawful.1, lawful⟩
  rw [WindowUnit.reshape, getElem_ofFn_fin]
  exact (chains c).emptied shape.count

theorem WindowUnit.Lawful.load {u : WindowUnit} (law : u.Lawful) {shape : WindowShape} (lawful : shape.Lawful) :
    (u.load shape).Lawful := by
  rw [WindowUnit.load]
  split
  next => exact law
  next => exact law.reshape lawful

theorem WindowUnit.restore_lawful {shape : WindowShape} (lawful : shape.Lawful) :
    (WindowUnit.restore shape).Lawful := by
  refine ⟨fun c => ?_, Nat.zero_lt_of_lt lawful.1, lawful⟩
  simpa [WindowUnit.restore] using
    replicate_clear_lawful shape.count (residue := 0) (heatIn := 0) (by decide) (Nat.zero_le _)

theorem WindowShape.builtIn_lawful : WindowShape.builtIn.Lawful := by
  unfold WindowShape.Lawful
  decide

/-! ### What charges and shapes the windows -/

theorem State.lapseGrant_windows (s : State) (c : Chain) (g : OpenGrant) :
    (s.lapseGrant c g).windows = (s.charge c g.code g.duration).windows := by
  simp [State.lapseGrant]

theorem State.closeRecord_windows (s : State) (c : Chain) (g : OpenGrant) (pact dact r : Nat) :
    (s.closeRecord c g pact dact r).windows = (s.charge c pact dact).windows := by
  unfold State.closeRecord
  dsimp only
  repeat' split
  all_goals simp [State.charge_windows]

theorem State.closeOn_keeps_windows {s : State} (law : s.windows.Lawful) (c : Chain) (tag : Byte) (pact dact r : Nat) :
    (s.closeOn c tag pact dact r).state.windows.Lawful := by
  rw [State.closeOn]
  split
  next => exact law
  next oldest younger list =>
    split
    next =>
      rw [State.closeRecord_windows]
      exact law.charge c _ _
    next =>
      split
      next => exact law
      next g found =>
        rw [State.closeRecord_windows]
        refine WindowUnit.Lawful.charge ?_ c _ _
        rw [State.lapseGrant_windows]
        exact law.charge c _ _

theorem State.takeLapse_keeps_windows {s : State} (law : s.windows.Lawful) (c : Chain) (tag : Byte) :
    (s.takeLapse c tag).windows.Lawful := by
  rw [State.takeLapse]
  split
  next => exact law
  next g _ =>
    rw [State.lapseGrant_windows]
    exact law.charge c _ _

theorem chargeList_keeps_windows {s : State} (law : s.windows.Lawful) (c : Chain) (l : List OpenGrant) :
    (l.foldl (fun t g => t.charge c g.code g.duration) s).windows.Lawful := by
  induction l generalizing s with
  | nil => exact law
  | cons g l ih => exact ih (law.charge c _ _)

theorem State.linkReset_keeps_windows {s : State} (law : s.windows.Lawful) : s.linkReset.windows.Lawful := by
  have charged : ∀ (l : List Chain) (t : State), t.windows.Lawful → (l.foldl State.chargeOpen t).windows.Lawful := by
    intro l
    induction l with
    | nil => exact fun _ h => h
    | cons c l ih => exact fun t h => ih _ (chargeList_keeps_windows h c _)
  simpa [State.linkReset] using charged allChains s law

/-! ### The law -/

theorem State.takeModelStep_windows (s : State) : s.takeModelStep.windows = s.windows.heatTaken := by
  simp [State.takeModelStep]

theorem readsFrom_shape_lawful (k : Contents) (b : List Byte) (read : k.ReadsFrom b) : k.shape.Lawful := by
  obtain ⟨-, -, -, -, count, low, high, -⟩ := read
  rw [WindowShape.Lawful, count]
  exact ⟨low, high⟩

theorem chosenContents_shape_lawful (flash : List Word16) : (chosenContents flash).shape.Lawful := by
  obtain ⟨b, read⟩ | defaults := chosenContents_cases flash
  · exact readsFrom_shape_lawful _ b read
  · exact defaults ▸ WindowShape.builtIn_lawful

theorem setWindowShapeBlock_keeps_windows {s : State} (law : s.windows.Lawful) (p : List Byte) :
    (setWindowShapeBlock p s).state.windows.Lawful := by
  unfold setWindowShapeBlock
  split
  next => exact law
  next shape parsed =>
    obtain ⟨count, low, high, -⟩ := parseWindowShape_eq_some_iff.mp parsed
    refine law.reshape ?_
    rw [WindowShape.Lawful, count]
    exact ⟨low, high⟩

theorem reset_windowLaw : State.reset.WindowLaw := by
  rw [State.windowLaw_iff]
  exact ⟨WindowUnit.restore_lawful WindowShape.builtIn_lawful, WindowShape.builtIn_lawful⟩

theorem exec_keeps_windows (c : Instr) (s : State) (law : s.windows.Lawful)
    (retained : s.retainedContents.shape.Lawful) : ∀ t : State, exec c s = .next t → t.windows.Lawful := by
  by_cases mayChange : Part.windows ∈ touched c
  case neg =>
    intro t next
    have same : t.windows = s.windows := exec_untouched next mayChange
    rwa [same]
  case pos =>
    cases c <;> simp [touched, allParts] at mayChange
    case powerOn a w k =>
      rw [powerOnSamplesTheLines a w k s]
      exact leads_of_next (State.reset.windowLaw_iff.mp reset_windowLaw).1
    case rstNAssert => exact leads_of_next (State.reset.windowLaw_iff.mp reset_windowLaw).1
    case loadCompletion flash =>
      refine leads_of_unlessHeld law fun _ => ?_
      split
      next =>
        obtain ⟨-, -, -, -, -, windows, -⟩ := s.completeLoad_blocks (chosenContents flash) (chosenStatus flash)
        rw [windows]
        exact law.load (chosenContents_shape_lawful flash)
      next => exact law
    case burstClose chain tag pact d r =>
      refine leads_of_unlessHeld law fun _ => ?_
      split
      next => exact law
      next c _ => exact State.closeOn_keeps_windows law c tag _ _ _
    case linkReset =>
      refine leads_of_unlessHeld law fun _ => ?_
      simpa using State.linkReset_keeps_windows law
    case lapse c tag =>
      exact leads_of_unlessHeld law fun _ => State.takeLapse_keeps_windows law c tag
    case bucketExpiry =>
      refine leads_of_unlessHeld law fun _ => ?_
      split
      next => exact law.expire
      next => exact law
    case modelStep =>
      refine leads_of_unlessHeld law fun _ => ?_
      split
      next => exact s.takeModelStep_windows ▸ law.heatTaken
      next => exact law
    case setWindowShape p =>
      exact policyCommand_keeps rfl law (fun _ _ _ kept => kept) fun _ => setWindowShapeBlock_keeps_windows law p
    case softReset p =>
      refine policyCommand_keeps rfl law (fun _ _ _ kept => kept) fun _ => ?_
      obtain ⟨-, -, -, windows, -⟩ := s.softReset_blocks
      simp only [blockOf, softResetBlock, State.accept_eq, windows]
      exact WindowUnit.restore_lawful retained

theorem exec_keeps_windowLaw (c : Instr) (s : State) (law : s.WindowLaw) (t : State) (next : exec c s = .next t) :
    t.WindowLaw := by
  rw [State.windowLaw_iff] at law ⊢
  obtain ⟨windows, retained⟩ := law
  exact ⟨exec_keeps_windows c s windows retained t next,
    exec_keeps_retained WindowShape.builtIn_lawful readsFrom_shape_lawful c s retained t next⟩

/-- Settles O54: a charge moves the sum by what its bucket takes, and a bucket leaves the ring with its energy. -/
theorem stepKeepsWindowLaw : Obligations.StepKeepsWindowLaw := by
  unfold Obligations.StepKeepsWindowLaw
  exact step_keeps_of_exec (fun _ _ law => law) exec_keeps_windowLaw

end Sys2Proof.Machine
end

section
/-! Proofs about chapters 9 and 10: the context law (R153, R158) and the supply law (R142, R143, R145). -/

namespace Sys2Proof.Machine

/-! ### Contexts -/

theorem Context.builtIn_lawful : Context.builtIn.Lawful :=
  ⟨by decide, by decide, by decide, by decide⟩

theorem fieldAt_three_lt (p : List Byte) (i : Nat) : fieldAt p i 3 < 2 ^ 24 := by
  have h0 := byteAt_lt p i
  have h1 := byteAt_lt p (i + 1)
  have h2 := byteAt_lt p (i + 2)
  rw [fieldAt_three]
  omega

theorem fieldAt_five_lt (p : List Byte) (i : Nat) : fieldAt p i 5 < 2 ^ 40 := by
  have h0 := byteAt_lt p i
  have h1 := byteAt_lt p (i + 1)
  have h2 := byteAt_lt p (i + 2)
  have h3 := byteAt_lt p (i + 3)
  have h4 := byteAt_lt p (i + 4)
  rw [fieldAt_five]
  omega

theorem readsFrom_context_lawful (k : Contents) (b : List Byte) (read : k.ReadsFrom b) : k.context.Lawful := by
  obtain ⟨-, -, -, ⟨chains, poolLimit, lifetime, -⟩, -⟩ := read
  have byte : ∀ i : Nat, contentAt b i < 256 := contentAt_lt b
  refine ⟨fun c => ?_, ?_, ?_, ?_⟩
  · obtain ⟨-, -, below, fields⟩ := chains c
    have h0 := byte (447 + 9 * c.val + 2)
    have h4 := byte (447 + 9 * c.val + 4)
    have h5 := byte (447 + 9 * c.val + 5)
    have h6 := byte (447 + 9 * c.val + 6)
    have h7 := byte (447 + 9 * c.val + 7)
    have h8 := byte (447 + 9 * c.val + 8)
    rw [fields]
    dsimp only
    omega
  · have h0 := byte 483
    have h1 := byte 484
    have h2 := byte 485
    rw [poolLimit]
    omega
  · rw [lifetime]
    omega
  · rw [lifetime]
    omega

/-- The part of the context law that is about the Context Store. -/
def ContextStore.Lawful (x : ContextStore) : Prop :=
  x.current.Lawful ∧ (∀ y ∈ x.stack, y.Lawful) ∧ x.stack.length ≤ 4

theorem State.contextLaw_iff (s : State) :
    s.ContextLaw ↔ s.context.Lawful ∧ s.retainedContents.context.Lawful := by
  simp only [State.ContextLaw, ContextStore.Lawful, and_assoc]

theorem ContextStore.Lawful.set_current {x : ContextStore} (law : x.Lawful) {y : Context} (lawful : y.Lawful) :
    ContextStore.Lawful { x with current := y } :=
  ⟨lawful, law.2⟩

theorem ContextStore.Lawful.push {x : ContextStore} (law : x.Lawful) (room : x.stack.length < 4) :
    ContextStore.Lawful { x with stack := x.current :: x.stack } := by
  obtain ⟨current, stack, -⟩ := law
  refine ⟨current, fun y member => ?_, ?_⟩
  · obtain rfl | below := List.mem_cons.mp member
    · exact current
    · exact stack y below
  · exact room

theorem ContextStore.Lawful.pop {x : ContextStore} (law : x.Lawful) {top : Context} {rest : List Context}
    (held : x.stack = top :: rest) : ContextStore.Lawful ⟨top, rest⟩ := by
  obtain ⟨-, stack, length⟩ := law
  rw [held] at stack length
  refine ⟨stack top List.mem_cons_self, fun y member => stack y (List.mem_cons_of_mem _ member), ?_⟩
  exact Nat.le_of_succ_le length

theorem Context.Lawful.set_chain {x : Context} (law : x.Lawful) {p : List Byte} {c : Chain} {y : ChainPolicy}
    (parsed : parseSetChain p = some (c, y)) : Context.Lawful { x with chains := x.chains.set c y } := by
  obtain ⟨chains, rest⟩ := law
  obtain ⟨-, -, below, rfl⟩ := parseSetChain_eq_some_iff.mp parsed
  refine ⟨fun d => ?_, rest⟩
  simp only [getElem_set_fin]
  split
  next =>
    have h2 := byteAt_lt p 2
    have h4 := fieldAt_five_lt p 4
    dsimp only
    omega
  next => exact chains d

theorem setChainBlock_keeps_context {s : State} (law : s.context.Lawful) (p : List Byte) :
    (setChainBlock p s).state.context.Lawful := by
  unfold setChainBlock
  split
  next => exact law
  next c y parsed => exact law.set_current (law.1.set_chain parsed)

theorem setPoolLimitBlock_keeps_context {s : State} (law : s.context.Lawful) (p : List Byte) :
    (setPoolLimitBlock p s).state.context.Lawful := by
  obtain ⟨chains, -, lifetime⟩ := law.1
  have small := fieldAt_three_lt p 0
  simp only [setPoolLimitBlock, State.accept_eq, State.recomputeLimit_frame]
  exact law.set_current ⟨chains, by dsimp only; omega, lifetime⟩

theorem setLifetimeBlock_keeps_context {s : State} (law : s.context.Lawful) (p : List Byte) :
    (setLifetimeBlock p s).state.context.Lawful := by
  obtain ⟨chains, limit, -⟩ := law.1
  refine law.set_current ⟨chains, limit, ?_⟩
  simp only [parseLifetime]
  omega

theorem setTriggerEnableBlock_keeps_context {s : State} (law : s.context.Lawful) (p : List Byte) :
    (setTriggerEnableBlock p s).state.context.Lawful := by
  unfold setTriggerEnableBlock
  split
  next => exact law
  next => exact law.set_current law.1

theorem pushContextBlock_keeps_context {s : State} (law : s.context.Lawful) :
    (pushContextBlock s).state.context.Lawful := by
  unfold pushContextBlock
  split
  next => exact law
  next room => exact law.push (Nat.lt_of_not_le room)

theorem popContextBlock_keeps_context {s : State} (law : s.context.Lawful) :
    (popContextBlock s).state.context.Lawful := by
  unfold popContextBlock
  split
  next => exact law
  next top rest held =>
    simp only [State.accept_eq, State.recomputeLimit_frame, State.withContext_context]
    exact law.pop held

theorem builtIn_store_lawful : ContextStore.Lawful ⟨Context.builtIn, []⟩ :=
  ⟨Context.builtIn_lawful, by simp, by simp⟩

theorem reset_contextLaw : State.reset.ContextLaw := by
  rw [State.contextLaw_iff]
  exact ⟨builtIn_store_lawful, Context.builtIn_lawful⟩

theorem exec_keeps_context (c : Instr) (s : State) (law : s.context.Lawful)
    (retained : s.retainedContents.context.Lawful) : ∀ t : State, exec c s = .next t → t.context.Lawful := by
  by_cases mayChange : Part.context ∈ touched c
  case neg =>
    intro t next
    have same : t.context = s.context := exec_untouched next mayChange
    rwa [same]
  case pos =>
    cases c <;> simp [touched, allParts] at mayChange
    case powerOn a w k =>
      rw [powerOnSamplesTheLines a w k s]
      exact leads_of_next builtIn_store_lawful
    case rstNAssert => exact leads_of_next builtIn_store_lawful
    case loadCompletion flash =>
      refine leads_of_unlessHeld law fun _ => ?_
      split
      next =>
        obtain ⟨-, -, -, -, context, -⟩ := s.completeLoad_blocks (chosenContents flash) (chosenStatus flash)
        rw [context]
        obtain ⟨b, read⟩ | defaults := chosenContents_cases flash
        · exact law.set_current (readsFrom_context_lawful _ b read)
        · exact defaults ▸ law.set_current Context.builtIn_lawful
      next => exact law
    case setChain p =>
      exact policyCommand_keeps rfl law (fun _ _ _ kept => kept) fun _ => setChainBlock_keeps_context law p
    case setPoolLimit p =>
      exact policyCommand_keeps rfl law (fun _ _ _ kept => kept) fun _ => setPoolLimitBlock_keeps_context law p
    case setLifetime p =>
      exact policyCommand_keeps rfl law (fun _ _ _ kept => kept) fun _ => setLifetimeBlock_keeps_context law p
    case setTriggerEnable p =>
      exact policyCommand_keeps rfl law (fun _ _ _ kept => kept) fun _ => setTriggerEnableBlock_keeps_context law p
    case pushContext p =>
      exact policyCommand_keeps rfl law (fun _ _ _ kept => kept) fun _ => pushContextBlock_keeps_context law
    case popContext p =>
      exact policyCommand_keeps rfl law (fun _ _ _ kept => kept) fun _ => popContextBlock_keeps_context law
    case softReset p =>
      refine policyCommand_keeps rfl law (fun _ _ _ kept => kept) fun _ => ?_
      obtain ⟨-, -, -, -, -, -, -, context, -⟩ := s.softReset_blocks
      simp only [blockOf, softResetBlock, State.accept_eq, context]
      exact ⟨retained, by simp, by simp⟩

theorem exec_keeps_contextLaw (c : Instr) (s : State) (law : s.ContextLaw) (t : State) (next : exec c s = .next t) :
    t.ContextLaw := by
  rw [State.contextLaw_iff] at law ⊢
  obtain ⟨context, retained⟩ := law
  exact ⟨exec_keeps_context c s context retained t next,
    exec_keeps_retained Context.builtIn_lawful readsFrom_context_lawful c s retained t next⟩

/-- Settles O57: each command writes one field within its range, and the stack moves by whole contexts. -/
theorem stepKeepsContextLaw : Obligations.StepKeepsContextLaw := by
  unfold Obligations.StepKeepsContextLaw
  exact step_keeps_of_exec (fun _ _ law => law) exec_keeps_contextLaw

/-! ### The supply pool -/

/-- The part of the supply law that is about the Supply Pool Monitor, under a pool limit. -/
def SupplyPool.Lawful (p : SupplyPool) (poolLimit : Nat) : Prop :=
  p.limit = effectiveLimit p.applied poolLimit p.settings ∧ p.target.code ≤ p.applied.code ∧
    (p.hold.isSome = true ↔ p.target.code < p.applied.code)

theorem State.supplyLaw_iff (s : State) : s.SupplyLaw ↔ s.supply.Lawful s.context.current.poolLimit := Iff.rfl

/-- At the target level no hold is due. -/
theorem SupplyPool.lawful_of_settled {p : SupplyPool} {poolLimit : Nat}
    (limit : p.limit = effectiveLimit p.applied poolLimit p.settings) (settled : p.target = p.applied)
    (idle : p.hold = none) : p.Lawful poolLimit := by
  refine ⟨limit, ?_, ?_⟩
  · rw [settled]
  · simp [idle, settled]

/-- Once E is in force, a re-formed target restores the rest of the law whatever the lines were before. -/
theorem State.reformTarget_supply_lawful {s : State}
    (limit : s.supply.limit = effectiveLimit s.supply.applied s.context.current.poolLimit s.supply.settings) :
    s.reformTarget.supply.Lawful s.context.current.poolLimit := by
  obtain ⟨-, reformed⟩ | ⟨same, reformed⟩ | ⟨lower, holding, reformed⟩ | ⟨-, -, -, reformed⟩ |
    ⟨lower, -, -, reformed⟩ := s.reformTarget_cases <;> rw [reformed]
  case inl =>
    simp only [State.recomputeLimit_supply, State.announceLevel_frame, State.applyLevel_frame, State.applyLevel_supply]
    exact SupplyPool.lawful_of_settled rfl rfl rfl
  case inr.inl =>
    refine ⟨limit, same.le, ?_⟩
    simp only [State.withSupply_supply, Option.isSome_none, Bool.false_eq_true, false_iff, Nat.not_lt]
    exact same.ge
  case inr.inr.inl => exact ⟨limit, lower.le, by simp [holding, lower]⟩
  case inr.inr.inr.inl =>
    simp only [State.recomputeLimit_supply, State.applyLevel_frame, State.applyLevel_supply]
    exact SupplyPool.lawful_of_settled rfl rfl rfl
  case inr.inr.inr.inr => exact ⟨limit, lower.le, ⟨fun _ => lower, fun _ => rfl⟩⟩

theorem State.reformTarget_context (s : State) : s.reformTarget.context = s.context := by
  simp

/-- A line's pin and timer are no part of the law. -/
theorem SupplyPool.Lawful.set_pin {p : SupplyPool} {poolLimit : Nat} (law : p.Lawful poolLimit) (line : OvlLine)
    (pin : Bool) (timer : Timer) : (p.setLine line ⟨pin, (p.line line).taken, timer⟩).Lawful poolLimit := by
  cases line <;> exact law

theorem SupplyPool.setLine_level (p : SupplyPool) (line : OvlLine) (m : LineMonitor) :
    (p.setLine line m).applied = p.applied ∧ (p.setLine line m).settings = p.settings ∧
      (p.setLine line m).limit = p.limit := by
  cases line <;> simp [SupplyPool.setLine]

theorem State.takeLine_supply_lawful {s : State}
    (limit : s.supply.limit = effectiveLimit s.supply.applied s.context.current.poolLimit s.supply.settings)
    (line : OvlLine) : (s.takeLine line).supply.Lawful s.context.current.poolLimit := by
  obtain ⟨applied, settings, same⟩ :=
    s.supply.setLine_level line ⟨(s.supply.line line).pin, (s.supply.line line).pin, none⟩
  refine State.reformTarget_supply_lawful ?_
  simp only [State.withSupply_supply, State.withSupply_context, applied, settings, same, limit]

theorem State.pinChanged_supply_lawful {s : State} (law : s.supply.Lawful s.context.current.poolLimit) (line : OvlLine) (level : Bool) :
    (s.pinChanged line level).supply.Lawful s.context.current.poolLimit := by
  unfold State.pinChanged
  dsimp only
  split
  next => exact law.set_pin line level none
  next =>
    split
    next => exact State.takeLine_supply_lawful (law.set_pin line level none).1 line
    next => exact law.set_pin line level _

/-- E follows a new pool limit or new settings. -/
theorem State.recomputeLimit_supplyLaw {s : State} (level : s.supply.target.code ≤ s.supply.applied.code)
    (hold : s.supply.hold.isSome = true ↔ s.supply.target.code < s.supply.applied.code) :
    s.recomputeLimit.SupplyLaw := by
  have context : s.recomputeLimit.context = s.context := by simp
  rw [State.supplyLaw_iff, State.recomputeLimit_supply, context]
  exact ⟨rfl, level, hold⟩

theorem State.supplyLaw_of_same {s t : State} (law : s.SupplyLaw) (supply : t.supply = s.supply)
    (limit : t.context.current.poolLimit = s.context.current.poolLimit) : t.SupplyLaw := by
  rw [State.supplyLaw_iff, supply, limit]
  exact law

theorem State.reformed_supplyLaw {s t : State} (supply : t.supply.Lawful s.context.current.poolLimit)
    (context : t.context = s.context) : t.SupplyLaw := by
  rwa [State.supplyLaw_iff, context]

theorem State.endHold_supplyLaw (s : State) : s.endHold.SupplyLaw := by
  refine State.reformed_supplyLaw (s := s) ?_ (by simp)
  simp only [State.endHold, State.recomputeLimit_supply, State.applyLevel_frame, State.applyLevel_supply]
  exact SupplyPool.lawful_of_settled rfl rfl rfl

theorem reset_supplyLaw : State.reset.SupplyLaw :=
  SupplyPool.lawful_of_settled rfl rfl rfl

theorem popContextBlock_keeps_supplyLaw {s : State} (law : s.SupplyLaw) : (popContextBlock s).state.SupplyLaw := by
  unfold popContextBlock
  split
  next => exact law
  next => exact State.recomputeLimit_supplyLaw law.2.1 law.2.2

theorem exec_keeps_supplyLaw (c : Instr) (s : State) (law : s.SupplyLaw) :
    ∀ t : State, exec c s = .next t → t.SupplyLaw := by
  obtain ⟨limit, level, hold⟩ := law
  have law : s.SupplyLaw := ⟨limit, level, hold⟩
  by_cases mayChange : Part.supply ∈ touched c ∨ Part.context ∈ touched c
  case neg =>
    intro t next
    obtain ⟨h1, h2⟩ := not_or.mp mayChange
    have supply : t.supply = s.supply := exec_untouched next h1
    have context : t.context = s.context := exec_untouched next h2
    exact State.supplyLaw_of_same law supply (by rw [context])
  case pos =>
    cases c <;> simp [touched, allParts] at mayChange
    case powerOn a w k =>
      exact leads_of_next (State.reformed_supplyLaw (State.reformTarget_supply_lawful rfl)
        (State.reformTarget_context _))
    case rstNAssert => exact leads_of_next (SupplyPool.lawful_of_settled rfl rfl rfl)
    case loadCompletion flash =>
      refine leads_of_unlessHeld law fun _ => ?_
      split
      next =>
        obtain ⟨-, -, -, -, context, -, supply, -⟩ :=
          s.completeLoad_blocks (chosenContents flash) (chosenStatus flash)
        rw [State.supplyLaw_iff, supply, context]
        exact ⟨rfl, level, hold⟩
      next => exact law
    case ovlPinChange line b =>
      refine leads_of_next ?_
      split
      next => exact SupplyPool.Lawful.set_pin law line b (s.supply.line line).debounce
      next =>
        split
        next => exact law
        next => exact State.reformed_supplyLaw (State.pinChanged_supply_lawful law line b) (by simp)
    case debounceExpiry line =>
      refine leads_of_unlessHeld law fun _ => ?_
      split
      next => exact State.reformed_supplyLaw (State.takeLine_supply_lawful limit line) (by simp)
      next => exact law
    case recoveryHoldExpiry =>
      refine leads_of_unlessHeld law fun _ => ?_
      split
      next => exact State.endHold_supplyLaw s
      next => exact law
    case setOverload p =>
      exact policyCommand_keeps rfl law (fun _ _ _ kept => kept) fun _ => State.recomputeLimit_supplyLaw level hold
    case setPoolLimit p =>
      exact policyCommand_keeps rfl law (fun _ _ _ kept => kept) fun _ => State.recomputeLimit_supplyLaw level hold
    case popContext p =>
      exact policyCommand_keeps rfl law (fun _ _ _ kept => kept) fun _ => popContextBlock_keeps_supplyLaw law
    case setChain p =>
      refine policyCommand_keeps rfl law (fun _ _ _ kept => kept) fun _ => ?_
      simp only [blockOf, setChainBlock]
      split <;> exact law
    case setLifetime p => exact policyCommand_keeps rfl law (fun _ _ _ kept => kept) fun _ => law
    case setTriggerEnable p =>
      refine policyCommand_keeps rfl law (fun _ _ _ kept => kept) fun _ => ?_
      simp only [blockOf, setTriggerEnableBlock]
      split <;> exact law
    case pushContext p =>
      refine policyCommand_keeps rfl law (fun _ _ _ kept => kept) fun _ => ?_
      simp only [blockOf, pushContextBlock]
      split <;> exact law
    case softReset p =>
      refine policyCommand_keeps rfl law (fun _ _ _ kept => kept) fun _ => ?_
      obtain ⟨-, -, -, -, -, -, -, context, supply⟩ := s.softReset_blocks
      simp only [blockOf, softResetBlock, State.accept_eq, State.supplyLaw_iff, context, supply]
      exact SupplyPool.lawful_of_settled rfl rfl rfl

/-- Settles O58: a re-formed target restores the law, and every change of E's figures recomputes E. -/
theorem stepKeepsSupplyLaw : Obligations.StepKeepsSupplyLaw := by
  unfold Obligations.StepKeepsSupplyLaw
  exact step_keeps_of_exec (fun _ _ law => law) exec_keeps_supplyLaw

end Sys2Proof.Machine
end

section
/-! Proofs about chapters 5 and 6: the temperature law (R11, R73, R93). -/

namespace Sys2Proof.Machine

theorem clampTemp_inTempRange (x : Int) : inTempRange (clampTemp x) := by
  rw [inTempRange, clampTemp, clampInt]
  omega

theorem tempAt_inTempRange (b : List Byte) (i : Nat) : inTempRange (tempAt b i) := by
  rw [inTempRange, tempAt]
  omega

/-! ### The temperatures of the blocks -/

/-- The temperatures a chain's record holds. -/
def ThermalChain.InTempRange (t : ThermalChain) : Prop :=
  inTempRange t.estimate ∧ t.coeffs.InTempRange

/-- The part of the temperature law that is about the Thermal Estimator. -/
def ThermalEstimator.InTempRange (t : ThermalEstimator) : Prop :=
  (∀ c : Chain, t.chains[c].InTempRange) ∧ inTempRange t.board.temp ∧ inTempRange t.fallback

/-- The part of the temperature law that is about the Sensor Scanner. -/
def SensorScanner.InTempRange (r : SensorScanner) : Prop :=
  (∀ i : Input, inTempRange r.inputs[i].lastValue ∧ inTempRange r.inputs[i].cal.base) ∧
    ∀ v : Conversion, r.inFlight = some v → inTempRange v.cal.base

/-- The temperatures among an image's contents. -/
def Contents.InTempRange (k : Contents) : Prop :=
  (∀ c : Chain, k.coeffs[c].InTempRange) ∧ inTempRange k.fallback ∧ ∀ i : Input, inTempRange k.sensors[i].base

theorem State.temperatureLaw_iff (s : State) :
    s.TemperatureLaw ↔ s.thermal.InTempRange ∧ s.scanner.InTempRange ∧ s.retainedContents.InTempRange := by
  simp only [State.TemperatureLaw, ThermalEstimator.InTempRange, ThermalChain.InTempRange,
    SensorScanner.InTempRange, Contents.InTempRange, and_assoc]

theorem Contents.builtIn_inTempRange : Contents.builtIn.InTempRange := by
  unfold Contents.InTempRange ThermalCoeffs.InTempRange inTempRange
  decide

theorem readsFrom_inTempRange (k : Contents) (b : List Byte) (read : k.ReadsFrom b) : k.InTempRange := by
  obtain ⟨⟨sensors, coeffs, fallback, -⟩, -⟩ := read
  refine ⟨fun c => ?_, ?_, fun i => ?_⟩
  · obtain ⟨-, -, -, fields⟩ := coeffs c
    rw [fields]
    exact ⟨tempAt_inTempRange _ _, tempAt_inTempRange _ _⟩
  · rw [fallback]
    exact tempAt_inTempRange _ _
  · rw [(sensors i).2]
    exact tempAt_inTempRange _ _

theorem chosenContents_inTempRange (flash : List Word16) : (chosenContents flash).InTempRange := by
  obtain ⟨b, read⟩ | defaults := chosenContents_cases flash
  · exact readsFrom_inTempRange _ b read
  · exact defaults ▸ Contents.builtIn_inTempRange

/-! ### One chain's record -/

theorem ThermalChain.InTempRange.reevaluate {t : ThermalChain} (law : t.InTempRange) : t.reevaluate.InTempRange :=
  law

theorem ThermalChain.InTempRange.setEstimate {t : ThermalChain} (law : t.InTempRange) (x : Int) :
    (t.setEstimate x).InTempRange :=
  ⟨clampTemp_inTempRange x, law.2⟩

theorem ThermalChain.InTempRange.blend {t : ThermalChain} (law : t.InTempRange) (sample : Int) (seedPending : Bool) :
    (t.blend sample seedPending).InTempRange := by
  rw [ThermalChain.blend]
  split
  next => exact law
  next => exact law.setEstimate _

theorem ThermalChain.InTempRange.deliver {t : ThermalChain} (law : t.InTempRange) (d : Delivery) (seedPending : Bool) :
    (t.deliver d seedPending).InTempRange := by
  cases d with
  | valid sample pinned =>
    have blended := law.blend sample seedPending
    simp only [ThermalChain.deliver, ThermalChain.takeSample]
    split_ifs <;> exact blended
  | invalid =>
    simp only [ThermalChain.deliver]
    split_ifs <;> exact law
  | loss => exact law

/-! ### The estimator -/

theorem ThermalEstimator.InTempRange.reevaluateAll {t : ThermalEstimator} (law : t.InTempRange) :
    t.reevaluateAll.InTempRange := by
  refine ⟨fun c => ?_, law.2⟩
  simp only [ThermalEstimator.reevaluateAll, getElem_ofFn_fin]
  exact law.1 c

theorem ThermalEstimator.InTempRange.modelStep {t : ThermalEstimator} (law : t.InTempRange) (u : WindowUnit) :
    (t.modelStep u).InTempRange := by
  refine ⟨fun c => ?_, law.2⟩
  simp only [ThermalEstimator.modelStep, getElem_ofFn_fin]
  exact (law.1 c).setEstimate _

/-- The sample a delivery carries lies in the range. -/
def Delivery.InTempRange : Delivery → Prop
  | .valid sample _ => inTempRange sample
  | .invalid => True
  | .loss => True

theorem SensorRecord.delivery_inTempRange (r : SensorRecord) (k : Calibration) (raw : BitVec 12) :
    (r.delivery k raw).InTempRange := by
  rw [SensorRecord.delivery]
  split_ifs
  · exact clampTemp_inTempRange _
  · trivial
  · trivial

theorem ThermalEstimator.InTempRange.deliverBoard {t : ThermalEstimator} (law : t.InTempRange) {d : Delivery}
    (sample : d.InTempRange) : (t.deliverBoard d).InTempRange := by
  obtain ⟨chains, board, fallback⟩ := law
  cases d with
  | valid x pinned =>
    simp only [ThermalEstimator.deliverBoard]
    split_ifs
    · refine ThermalEstimator.InTempRange.reevaluateAll ⟨fun c => ?_, sample, fallback⟩
      simp only [getElem_ofFn_fin]
      exact ⟨sample, (chains c).2⟩
    · exact ⟨chains, sample, fallback⟩
  | invalid => exact ⟨chains, board, fallback⟩
  | loss => exact ⟨chains, fallback, fallback⟩

theorem ThermalEstimator.InTempRange.deliver {t : ThermalEstimator} (law : t.InTempRange) (i : Input) {d : Delivery}
    (sample : d.InTempRange) : (t.deliver i d).InTempRange := by
  rw [ThermalEstimator.deliver]
  split
  next onChain =>
    refine ⟨fun c => ?_, law.2⟩
    rw [show t.chains.set i.val _ onChain = t.chains.set (⟨i.val, onChain⟩ : Fin 4) _ from rfl, getElem_set_fin]
    split
    next => exact (law.1 ⟨i.val, onChain⟩).deliver _ _
    next => exact law.1 c
  next => exact law.deliverBoard sample

theorem BoardRecord.newFallback_inTempRange {b : BoardRecord} (board : inTempRange b.temp) {x : Int}
    (fallback : inTempRange x) : inTempRange (b.newFallback x).temp := by
  rw [BoardRecord.newFallback]
  split_ifs
  · exact fallback
  · exact board

theorem ThermalEstimator.InTempRange.withContents {t : ThermalEstimator} (law : t.InTempRange) {k : Contents}
    (contents : k.InTempRange) : (t.withContents k).InTempRange := by
  obtain ⟨chains, board, -⟩ := law
  obtain ⟨coeffs, fallback, -⟩ := contents
  refine ⟨fun c => ?_, board, fallback⟩
  simp only [ThermalEstimator.withContents, getElem_ofFn_fin]
  exact ⟨(chains c).1, coeffs c⟩

theorem ThermalEstimator.InTempRange.restore {t : ThermalEstimator} (law : t.InTempRange) {k : Contents}
    (contents : k.InTempRange) : (t.restore k).InTempRange := by
  obtain ⟨chains, -, fallback⟩ := law.withContents contents
  exact ⟨chains, BoardRecord.newFallback_inTempRange law.2.1 contents.2.1, fallback⟩

theorem setThermalBlock_keeps_temperatures {s : State} (law : s.thermal.InTempRange) (p : List Byte) :
    (setThermalBlock p s).state.thermal.InTempRange := by
  unfold setThermalBlock
  split
  next => exact law
  next x parsed =>
    obtain ⟨chains, board, -⟩ := law
    obtain ⟨-, -, -, coeffs, fallback⟩ := parseThermal_eq_some_iff.mp parsed
    have inRange : inTempRange x.fallback := fallback ▸ clampTemp_inTempRange _
    have written : x.coeffs.InTempRange := coeffs ▸ ⟨clampTemp_inTempRange _, clampTemp_inTempRange _⟩
    simp only [State.accept_eq, State.changeThermal_thermal]
    refine ⟨fun c => ?_, BoardRecord.newFallback_inTempRange board inRange, inRange⟩
    simp only [ThermalEstimator.setCoeffs, getElem_set_fin]
    split
    next => exact ⟨(chains x.chain).1, written⟩
    next => exact chains c

/-! ### The scanner -/

theorem SensorScanner.InTempRange.set_input {r : SensorScanner} (law : r.InTempRange) (i : Input) {x : SensorRecord}
    (value : inTempRange x.lastValue) (base : inTempRange x.cal.base) :
    SensorScanner.InTempRange { r with inputs := r.inputs.set i x } := by
  obtain ⟨inputs, flight⟩ := law
  refine ⟨fun j => ?_, flight⟩
  simp only [getElem_set_fin]
  split
  next => exact ⟨value, base⟩
  next => exact inputs j

theorem SensorScanner.InTempRange.begin {r : SensorScanner} (law : r.InTempRange) (i : Input) :
    (r.begin i).InTempRange := by
  refine ⟨law.1, fun v begun => ?_⟩
  obtain rfl : ⟨i, r.inputs[i].cal⟩ = v := Option.some.inj begun
  exact (law.1 i).2

theorem SensorScanner.InTempRange.load {r : SensorScanner} (law : r.InTempRange) {k : Contents}
    (contents : k.InTempRange) : (r.load k).InTempRange := by
  have calibrated : SensorScanner.InTempRange
      { r with inputs := Vector.ofFn fun i : Fin 5 => { r.inputs[i] with cal := k.sensors[i] } } := by
    refine ⟨fun i => ?_, law.2⟩
    simp only [getElem_ofFn_fin]
    exact ⟨(law.1 i).1, contents.2.2 i⟩
  exact calibrated.begin 0

theorem SensorRecord.take_inTempRange {r : SensorRecord} (value : inTempRange r.lastValue) (k : Calibration)
    (raw : BitVec 12) : inTempRange (r.take k raw).lastValue ∧ (r.take k raw).cal = r.cal := by
  rw [SensorRecord.take]
  split_ifs
  · exact ⟨clampTemp_inTempRange _, rfl⟩
  · exact ⟨value, rfl⟩

/-- What a conversion expiry makes of the scanner and of the estimator (R94). -/
theorem State.takeConversion_blocks (s : State) (v : Conversion) (raw : BitVec 12) :
    (s.takeConversion v raw).scanner =
      SensorScanner.begin
        { s.scanner with inputs := s.scanner.inputs.set v.input (s.scanner.inputs[v.input].take v.cal raw) }
        (v.input + 1) ∧
    (s.takeConversion v raw).thermal =
      s.thermal.deliver v.input (s.scanner.inputs[v.input].delivery v.cal raw) := by
  have completed : (s.completeConversion v raw).scanner =
      { s.scanner with inputs := s.scanner.inputs.set v.input (s.scanner.inputs[v.input].take v.cal raw) } ∧
      (s.completeConversion v raw).thermal = s.thermal := by
    unfold State.completeConversion
    dsimp only
    split <;> simp
  unfold State.takeConversion
  simp only [State.withScanner_scanner, State.withScanner_thermal, State.changeThermal_thermal,
    State.changeThermal_frame, completed]
  trivial

theorem setSensorCalBlock_keeps_temperatures {s : State} (law : s.scanner.InTempRange) (p : List Byte) :
    (setSensorCalBlock p s).state.scanner.InTempRange := by
  unfold setSensorCalBlock
  split
  next => exact law
  next i k parsed =>
    obtain ⟨-, rfl⟩ := parseSensorCal_eq_some_iff.mp parsed
    exact law.set_input i (law.1 i).1 (clampTemp_inTempRange _)

/-! ### The law -/

theorem powerOn_inTempRange : ThermalEstimator.powerOn.InTempRange ∧ SensorScanner.powerOn.InTempRange := by
  refine ⟨⟨?_, ?_, ?_⟩, ?_, by simp [SensorScanner.powerOn]⟩
  · unfold ThermalChain.InTempRange ThermalCoeffs.InTempRange inTempRange
    decide
  all_goals unfold inTempRange; decide

theorem reset_temperatureLaw : State.reset.TemperatureLaw := by
  rw [State.temperatureLaw_iff]
  exact ⟨powerOn_inTempRange.1, powerOn_inTempRange.2, Contents.builtIn_inTempRange⟩

theorem exec_keeps_thermal_temperatures (c : Instr) (s : State) (law : s.thermal.InTempRange)
    (retained : s.retainedContents.InTempRange) : ∀ t : State, exec c s = .next t → t.thermal.InTempRange := by
  by_cases mayChange : Part.thermal ∈ touched c
  case neg =>
    intro t next
    have same : t.thermal = s.thermal := exec_untouched next mayChange
    rwa [same]
  case pos =>
    cases c <;> simp [touched, allParts] at mayChange
    case powerOn a w k =>
      rw [powerOnSamplesTheLines a w k s]
      exact leads_of_next powerOn_inTempRange.1
    case rstNAssert => exact leads_of_next powerOn_inTempRange.1
    case loadCompletion flash =>
      refine leads_of_unlessHeld law fun _ => ?_
      split
      next =>
        obtain ⟨-, -, thermal, -⟩ := s.completeLoad_blocks (chosenContents flash) (chosenStatus flash)
        rw [thermal]
        exact (law.withContents (chosenContents_inTempRange flash)).reevaluateAll
      next => exact law
    case modelStep =>
      refine leads_of_unlessHeld law fun _ => ?_
      split
      next =>
        simp only [State.takeModelStep, State.changeThermal_thermal]
        exact law.modelStep s.windows
      next => exact law
    case conversionTimerExpiry raw =>
      refine leads_of_unlessHeld law fun _ => ?_
      split
      next v _ _ =>
        rw [(s.takeConversion_blocks v raw).2]
        exact law.deliver v.input (SensorRecord.delivery_inTempRange _ _ _)
      next => exact law
    case setThermal p =>
      exact policyCommand_keeps rfl law (fun _ _ _ kept => kept) fun _ => setThermalBlock_keeps_temperatures law p
    case softReset p =>
      refine policyCommand_keeps rfl law (fun _ _ _ kept => kept) fun _ => ?_
      obtain ⟨-, -, -, -, thermal, -⟩ := s.softReset_blocks
      simp only [blockOf, softResetBlock, State.accept_eq, thermal]
      exact (law.restore retained).reevaluateAll

theorem exec_keeps_scanner_temperatures (c : Instr) (s : State) (law : s.scanner.InTempRange) :
    ∀ t : State, exec c s = .next t → t.scanner.InTempRange := by
  by_cases mayChange : Part.scanner ∈ touched c
  case neg =>
    intro t next
    have same : t.scanner = s.scanner := exec_untouched next mayChange
    rwa [same]
  case pos =>
    cases c <;> simp [touched, allParts] at mayChange
    case powerOn a w k =>
      rw [powerOnSamplesTheLines a w k s]
      exact leads_of_next powerOn_inTempRange.2
    case rstNAssert => exact leads_of_next powerOn_inTempRange.2
    case loadCompletion flash =>
      refine leads_of_unlessHeld law fun _ => ?_
      split
      next =>
        obtain ⟨-, scanner, -⟩ := s.completeLoad_blocks (chosenContents flash) (chosenStatus flash)
        rw [scanner]
        exact law.load (chosenContents_inTempRange flash)
      next => exact law
    case conversionTimerExpiry raw =>
      refine leads_of_unlessHeld law fun _ => ?_
      split
      next v _ _ =>
        obtain ⟨value, base⟩ := law.1 v.input
        obtain ⟨taken, cal⟩ := SensorRecord.take_inTempRange value v.cal raw
        rw [(s.takeConversion_blocks v raw).1]
        exact (law.set_input v.input taken (cal ▸ base)).begin _
      next => exact law
    case setSensorCal p =>
      exact policyCommand_keeps rfl law (fun _ _ _ kept => kept) fun _ => setSensorCalBlock_keeps_temperatures law p

theorem exec_keeps_temperatureLaw (c : Instr) (s : State) (law : s.TemperatureLaw) (t : State)
    (next : exec c s = .next t) : t.TemperatureLaw := by
  rw [State.temperatureLaw_iff] at law ⊢
  obtain ⟨thermal, scanner, retained⟩ := law
  exact ⟨exec_keeps_thermal_temperatures c s thermal retained t next, exec_keeps_scanner_temperatures c s scanner t next,
    exec_keeps_retained Contents.builtIn_inTempRange readsFrom_inTempRange c s retained t next⟩

/-- Settles O55: a temperature is written from a clamp, or copied from one that the part holds. -/
theorem stepKeepsTemperatureLaw : Obligations.StepKeepsTemperatureLaw := by
  unfold Obligations.StepKeepsTemperatureLaw
  exact step_keeps_of_exec (fun _ _ law => law) exec_keeps_temperatureLaw

end Sys2Proof.Machine
end

section
/-! Proofs about the shared operations the blocks announce with: what is kept by raising an event, by queueing a
notice, by presenting a trigger and by changes elsewhere is kept by whatever is made of these. -/

namespace Sys2Proof.Machine

/-- A property of the state that only the Event Latch, the Notice Queue, the sequencer and the loader bear on, and
that the three ways to announce keep. -/
structure KeptByAnnouncing (P : State → Prop) : Prop where
  elsewhere : ∀ {s t : State}, P s → t.notices = s.notices → t.events = s.events → t.sequencer = s.sequencer →
    t.loader = s.loader → P t
  raiseEvent : ∀ {s : State}, P s → ∀ (kind : EventKind) (m : BitVec 5), P (s.raiseEvent kind m)
  queueNotice : ∀ {s : State}, P s → ∀ (kind : NoticeKind) (m : BitVec 4) (v : Nat), P (s.queueNotice kind m v)
  presentTrigger : ∀ {s : State}, P s → ∀ k : TriggerKind, P (s.presentTrigger k)

/-! ### The shared operations -/

section
variable {P : State → Prop} (closed : KeptByAnnouncing P) {s : State} (held : P s)
include closed held

theorem KeptByAnnouncing.answerLink (kind : Byte) (answer : List Byte) : P (s.answerLink kind answer) :=
  closed.elsewhere held rfl rfl rfl rfl

theorem KeptByAnnouncing.reply (status : Status) (data : List Byte) : P (s.reply status data) :=
  closed.elsewhere held rfl rfl rfl rfl

theorem KeptByAnnouncing.withSupply (x : SupplyPool) : P (s.withSupply x) :=
  closed.elsewhere held rfl rfl rfl rfl

theorem KeptByAnnouncing.raiseTrips (l : List Chain) :
    P (l.foldl (fun t c => t.raiseEvent .trip (eventMask (chainBit c))) s) := by
  induction l generalizing s with
  | nil => exact held
  | cons c l ih => exact ih (closed.raiseEvent held _ _)

theorem KeptByAnnouncing.presentTrips (l : List Chain) : P (l.foldl (fun t _ => t.presentTrigger .trip) s) := by
  induction l generalizing s with
  | nil => exact held
  | cons c l ih => exact ih (closed.presentTrigger held _)

theorem KeptByAnnouncing.announceTrips (before : ThermalEstimator) : P (s.announceTrips before) := by
  have raised := closed.raiseTrips held (chainsWhere (tripEntered before s.thermal))
  rw [State.announceTrips]
  refine closed.presentTrips ?_ _
  split
  next => exact raised
  next => exact closed.queueNotice raised _ _ _

theorem KeptByAnnouncing.changeThermal (after : ThermalEstimator) : P (s.changeThermal after) :=
  closed.announceTrips (s := s.withThermal after) (closed.elsewhere held rfl rfl rfl rfl) _

theorem KeptByAnnouncing.recomputeLimit : P s.recomputeLimit := by
  rw [State.recomputeLimit]
  split
  next => exact closed.queueNotice (closed.withSupply held _) _ _ _
  next => exact closed.withSupply held _

theorem KeptByAnnouncing.announceLevel (level : SupplyLevel) : P (s.announceLevel level) := by
  cases level with
  | nominal => exact held
  | warn => exact closed.raiseEvent held _ _
  | crit => exact closed.presentTrigger (closed.raiseEvent held _ _) _

theorem KeptByAnnouncing.applyLevel (level : SupplyLevel) : P (s.applyLevel level) :=
  closed.withSupply held _

theorem KeptByAnnouncing.reformTarget : P s.reformTarget := by
  obtain ⟨-, reformed⟩ | ⟨-, reformed⟩ | ⟨-, -, reformed⟩ | ⟨-, -, -, reformed⟩ | ⟨-, -, -, reformed⟩ :=
    s.reformTarget_cases <;> rw [reformed]
  case inl => exact closed.recomputeLimit (closed.announceLevel (closed.applyLevel held _) _)
  case inr.inl => exact closed.withSupply held _
  case inr.inr.inl => exact held
  case inr.inr.inr.inl => exact closed.recomputeLimit (closed.applyLevel held _)
  case inr.inr.inr.inr => exact closed.withSupply held _

theorem KeptByAnnouncing.takeLine (line : OvlLine) : P (s.takeLine line) :=
  closed.reformTarget (closed.withSupply held _)

theorem KeptByAnnouncing.pinChanged (line : OvlLine) (level : Bool) : P (s.pinChanged line level) := by
  unfold State.pinChanged
  dsimp only
  split_ifs
  · exact closed.withSupply held _
  · exact closed.takeLine (closed.withSupply held _) line
  · exact closed.withSupply held _

/-! ### Closes and lapses -/

theorem KeptByAnnouncing.setMismatch (c : Chain) (m : MismatchChain) : P (s.setMismatch c m) :=
  closed.elsewhere held rfl rfl rfl rfl

theorem KeptByAnnouncing.reflectCode (c : Chain) (r : Nat) : P (s.reflectCode c r) := by
  have moved : ∀ m : MismatchChain, P (s.setMismatch c m) := closed.setMismatch held c
  have entered : P (s.enterMismatch c) :=
    closed.presentTrigger (closed.queueNotice (closed.raiseEvent (moved _) _ _) _ _ _) _
  have left : P (s.leaveMismatch c) := closed.queueNotice (moved _) _ _ _
  unfold State.reflectCode
  dsimp only
  split
  next =>
    split_ifs
    · exact entered
    · exact moved _
    · exact moved _
  next =>
    split_ifs
    · exact left
    · exact moved _
    · exact moved _

theorem KeptByAnnouncing.charge (c : Chain) (p d : Nat) : P (s.charge c p d) :=
  closed.elsewhere held rfl rfl rfl rfl

theorem KeptByAnnouncing.withGrants (x : GrantTable) : P (s.withGrants x) :=
  closed.elsewhere held rfl rfl rfl rfl

theorem KeptByAnnouncing.closeRecord (c : Chain) (g : OpenGrant) (pact dact r : Nat) :
    P (s.closeRecord c g pact dact r) := by
  have tested : P (if excessClose g pact dact then s.raiseEvent .excess (eventMask (chainBit c)) else s) := by
    split_ifs
    · exact closed.raiseEvent held _ _
    · exact held
  unfold State.closeRecord
  refine closed.withGrants ?_ _
  split
  next => exact closed.reflectCode (closed.charge tested _ _ _) c r
  next => exact closed.charge tested _ _ _

theorem KeptByAnnouncing.lapseGrant (c : Chain) (g : OpenGrant) : P (s.lapseGrant c g) :=
  closed.withGrants (closed.raiseEvent (closed.charge held _ _ _) _ _) _

theorem KeptByAnnouncing.closeOn (c : Chain) (tag : Byte) (pact dact r : Nat) :
    P (s.closeOn c tag pact dact r).state := by
  rw [State.closeOn]
  split
  next => exact closed.withGrants held _
  next =>
    split
    next => exact closed.closeRecord held _ _ _ _ _
    next =>
      split
      next => exact closed.withGrants held _
      next => exact closed.closeRecord (closed.lapseGrant held _ _) _ _ _ _ _

theorem KeptByAnnouncing.takeLapse (c : Chain) (tag : Byte) : P (s.takeLapse c tag) := by
  rw [State.takeLapse]
  split
  next => exact held
  next => exact closed.lapseGrant held _ _

/-! ### Conversions and model steps -/

theorem KeptByAnnouncing.withScanner (x : SensorScanner) : P (s.withScanner x) :=
  closed.elsewhere held rfl rfl rfl rfl

theorem KeptByAnnouncing.completeConversion (v : Conversion) (raw : BitVec 12) : P (s.completeConversion v raw) := by
  unfold State.completeConversion
  dsimp only
  split
  next => exact closed.raiseEvent (closed.withScanner held _) _ _
  next => exact closed.withScanner held _

theorem KeptByAnnouncing.takeConversion (v : Conversion) (raw : BitVec 12) : P (s.takeConversion v raw) :=
  closed.withScanner (closed.changeThermal (closed.completeConversion held v raw) _) _

theorem KeptByAnnouncing.takeModelStep : P s.takeModelStep :=
  closed.changeThermal (s := s.withWindows s.windows.heatTaken) (closed.elsewhere held rfl rfl rfl rfl) _

theorem KeptByAnnouncing.setThermal (p : List Byte) : P (setThermalBlock p s).state := by
  unfold setThermalBlock
  split
  next => exact held
  next => exact closed.changeThermal held _

theorem KeptByAnnouncing.popContext : P (popContextBlock s).state := by
  unfold popContextBlock
  split
  next => exact held
  next => exact closed.recomputeLimit (closed.elsewhere (t := s.withContext _) held rfl rfl rfl rfl)

/-! ### Load completion and soft reset -/

theorem KeptByAnnouncing.reevaluateThermal : P s.reevaluateThermal :=
  closed.changeThermal held _

theorem KeptByAnnouncing.reactToLoad : P s.reactToLoad := by
  have counted : ∀ n : Nat, P (s.withFreeCount n) := fun _ => closed.elsewhere held rfl rfl rfl rfl
  unfold State.reactToLoad
  dsimp only
  split_ifs
  · exact closed.recomputeLimit (closed.reevaluateThermal (counted _))
  · exact closed.reevaluateThermal (closed.recomputeLimit (counted _))
  · exact closed.recomputeLimit (closed.reevaluateThermal held)

theorem KeptByAnnouncing.applySampled : P s.applySampled := by
  have applied : P (s.applyLevel s.supply.target) := closed.applyLevel held _
  unfold State.applySampled
  dsimp only
  split_ifs
  · exact closed.recomputeLimit (closed.announceLevel applied _)
  · exact closed.recomputeLimit applied

theorem KeptByAnnouncing.tellTripped : P s.tellTripped := by
  unfold State.tellTripped
  split_ifs
  · exact held
  · exact closed.queueNotice held _ _ _

end

theorem KeptByAnnouncing.completeLoad {P : State → Prop} (closed : KeptByAnnouncing P) {s : State} {k : Contents}
    {status : ImageStatus} (applied : P (s.applyLoad k status)) : P (s.completeLoad k status) := by
  unfold State.completeLoad
  dsimp only
  split_ifs
  · exact closed.raiseEvent (closed.reactToLoad applied) _ _
  · exact closed.reactToLoad applied

theorem KeptByAnnouncing.softReset {P : State → Prop} (closed : KeptByAnnouncing P) {s : State}
    (restored : P (s.restored s.retainedContents)) : P s.softReset := by
  unfold State.softReset
  refine closed.tellTripped (closed.reevaluateThermal (closed.applySampled ?_))
  split_ifs
  · exact closed.raiseEvent restored _ _
  · exact restored

/-! ### The commands -/

/-- The commands that act on the Event Latch, the Notice Queue, the sequencer or the loader by more than announcing. -/
def actsBeyondAnnouncing : Instr → Bool
  | .powerOn _ _ _ => true
  | .rstNAssert => true
  | .loadCompletion _ => true
  | .softReset _ => true
  | .readNotice => true
  | .linkReset => true
  | .periodBoundary => true
  | .writeStep _ => true
  | .setSequencer _ => true
  | .setTrigger _ => true
  | .startSchedule _ => true
  | .abortSchedule _ => true
  | .freeze _ => true
  | .thaw _ => true
  | .clearEvents _ => true
  | .setAlertMask _ => true
  | .burstReq _ _ _ _ _ => false
  | .burstClose _ _ _ _ _ => false
  | .lapse _ _ => false
  | .bucketExpiry => false
  | .modelStep => false
  | .conversionTimerExpiry _ => false
  | .ovlPinChange _ _ => false
  | .debounceExpiry _ => false
  | .recoveryHoldExpiry => false
  | .writeCompletion => false
  | .readChain _ => false
  | .setWindowShape _ => false
  | .setThermal _ => false
  | .setSensorCal _ => false
  | .writeClass _ => false
  | .setServiceMap _ => false
  | .writeMatcher _ => false
  | .setOverload _ => false
  | .setMismatch _ => false
  | .setChain _ => false
  | .setPoolLimit _ => false
  | .setLifetime _ => false
  | .setTriggerEnable _ => false
  | .pushContext _ => false
  | .popContext _ => false
  | .peekContext _ => false
  | .readLinkStatus => false
  | .badFrame _ _ => false
  | .shortFrame _ => false
  | .readEvents _ => false
  | .readStatus _ => false
  | .badCommand _ _ => false
  | .commandByteArrival _ => false

/-- Every other command keeps what announcing keeps. -/
theorem KeptByAnnouncing.exec {P : State → Prop} (closed : KeptByAnnouncing P) {c : Instr}
    (only : actsBeyondAnnouncing c = false) {s : State} (held : P s) : ∀ t : State, exec c s = .next t → P t := by
  by_cases mayChange : Part.notices ∈ touched c ∨ Part.events ∈ touched c ∨ Part.sequencer ∈ touched c ∨
    Part.loader ∈ touched c
  case neg =>
    intro t next
    obtain ⟨h1, h2, h3, h4⟩ : Part.notices ∉ touched c ∧ Part.events ∉ touched c ∧ Part.sequencer ∉ touched c ∧
      Part.loader ∉ touched c := by simpa using mayChange
    exact closed.elsewhere held (exec_untouched next h1) (exec_untouched next h2) (exec_untouched next h3)
      (exec_untouched next h4)
  case pos =>
    have replied : ∀ (u : State) (status : Status) (data : List Byte), P u → P (u.reply status data) :=
      fun _ _ _ h => closed.reply h _ _
    cases c <;> simp [touched, actsBeyondAnnouncing] at mayChange only
    case burstClose chain tag pact d r =>
      refine leads_of_unlessHeld held fun _ => ?_
      split
      next => exact closed.answerLink held _ _
      next c _ => exact closed.answerLink (closed.closeOn held c tag _ _ _) _ _
    case lapse c tag => exact leads_of_unlessHeld held fun _ => closed.takeLapse held c tag
    case modelStep =>
      refine leads_of_unlessHeld held fun _ => ?_
      split
      next => exact closed.takeModelStep held
      next => exact held
    case conversionTimerExpiry raw =>
      refine leads_of_unlessHeld held fun _ => ?_
      split
      next => exact closed.takeConversion held _ _
      next => exact held
    case ovlPinChange line b =>
      refine leads_of_next ?_
      split_ifs
      · exact closed.withSupply held _
      · exact held
      · exact closed.pinChanged held line b
    case debounceExpiry line =>
      refine leads_of_unlessHeld held fun _ => ?_
      split
      next => exact closed.takeLine held line
      next => exact held
    case recoveryHoldExpiry =>
      refine leads_of_unlessHeld held fun _ => ?_
      split
      next => exact closed.recomputeLimit (closed.applyLevel held _)
      next => exact held
    case setThermal p => exact policyCommand_keeps rfl held replied fun _ => closed.setThermal held p
    case setOverload p =>
      exact policyCommand_keeps rfl held replied fun _ => closed.recomputeLimit (closed.withSupply held _)
    case setPoolLimit p =>
      refine policyCommand_keeps rfl held replied fun _ => ?_
      exact closed.recomputeLimit (closed.elsewhere (t := s.setContext _) held rfl rfl rfl rfl)
    case popContext => exact policyCommand_keeps rfl held replied fun _ => closed.popContext held

end Sys2Proof.Machine
end

section
/-! Proofs about the notices, the matcher write and the counters (R14, R93, R108, R111, R149, R164, R169). -/

namespace Sys2Proof.Machine

/-! ### Records: the notices, the event counts and the run count

The operations the blocks announce with are shared, and touch these three together. -/

/-- No event record counts past its maximum. -/
def State.EventCounts (s : State) : Prop :=
  ∀ i : Fin 9, s.events.records[i].count ≤ 255

/-- What is announced on the way from `s` to `t` keeps the notice law and the two counts' bounds. -/
def RecordsKept (s t : State) : Prop :=
  (s.NoticeLaw → t.NoticeLaw) ∧ (s.EventCounts → t.EventCounts) ∧
    (s.sequencer.runCount ≤ 65535 → t.sequencer.runCount ≤ 65535)

theorem RecordsKept.refl (s : State) : RecordsKept s s :=
  ⟨id, id, id⟩

theorem RecordsKept.cleared {s t : State} (notices : t.NoticeLaw) (events : t.EventCounts)
    (count : t.sequencer.runCount ≤ 65535) : RecordsKept s t :=
  ⟨fun _ => notices, fun _ => events, fun _ => count⟩

theorem count8_le {n : Nat} (small : n ≤ 255) : count8 n ≤ 255 := by
  rw [count8]
  split_ifs <;> omega

theorem count16_le {n : Nat} (small : n ≤ 65535) : count16 n ≤ 65535 := by
  rw [count16]
  split_ifs <;> omega

theorem BackoffSequencer.ramped_frame (q : BackoffSequencer) :
    q.ramped.program = q.program ∧ q.ramped.settings = q.settings ∧ q.ramped.triggers = q.triggers ∧
    q.ramped.state = q.state ∧ q.ramped.remembered = q.remembered ∧ q.ramped.run = q.run ∧ q.ramped.step = q.step ∧
    q.ramped.b0 = q.b0 ∧ q.ramped.k = q.k ∧ q.ramped.runCount = q.runCount ∧
    q.ramped.repeatsLeft = q.repeatsLeft ∧ q.ramped.holdCount = q.holdCount ∧
    q.ramped.pendingStart = q.pendingStart ∧ q.ramped.frame = q.frame ∧ q.ramped.timer = q.timer := by
  unfold BackoffSequencer.ramped
  split <;> simp

theorem BackoffSequencer.advanced_runCount (q : BackoffSequencer) : q.advanced.runCount = count16 q.runCount := by
  rw [BackoffSequencer.advanced]
  simp only [BackoffSequencer.ramped_frame]

section
variable {s t : State} (kept : RecordsKept s t)
include kept

theorem RecordsKept.withSequencer {q : BackoffSequencer} (count : q.runCount = t.sequencer.runCount) :
    RecordsKept s (t.withSequencer q) := by
  refine ⟨kept.1, kept.2.1, fun small => ?_⟩
  rw [State.withSequencer_sequencer, count]
  exact kept.2.2 small

theorem RecordsKept.queueNotice (kind : NoticeKind) (m : BitVec 4) (v : Nat) :
    RecordsKept s (t.queueNotice kind m v) :=
  ⟨fun law => arrive_nodup _ (kept.1 law), kept.2⟩

theorem RecordsKept.raiseEvent (kind : EventKind) (m : BitVec 5) : RecordsKept s (t.raiseEvent kind m) := by
  refine ⟨kept.1, fun law i => ?_, kept.2.2⟩
  rw [State.raiseEvent_events]
  simp only [getElem_set_fin]
  split
  next => exact count8_le (kept.2.1 law kind.index)
  next => exact kept.2.1 law i

theorem RecordsKept.presentTrigger (k : TriggerKind) : RecordsKept s (t.presentTrigger k) := by
  obtain ⟨-, passed⟩ | ⟨-, stood⟩ := t.presentTrigger_cases k
  · rw [passed]
    refine RecordsKept.withSequencer (t := t.withEvents { t.events with latch := some k }) kept ?_
    simp
  · rwa [stood]

/-! #### The sequencer's own announcements -/

theorem RecordsKept.reevaluateFrame (before : Fin 24) : RecordsKept s (t.reevaluateFrame before) := by
  have framed : RecordsKept s (t.withSequencer { t.sequencer with frame := t.sequencer.frameDue }) :=
    kept.withSequencer (by rfl)
  unfold State.reevaluateFrame
  dsimp only
  split_ifs
  · exact framed.queueNotice _ _ _
  · exact framed.queueNotice _ _ _
  · exact framed

theorem RecordsKept.testLead : RecordsKept s t.testLead := by
  unfold State.testLead
  dsimp only
  split_ifs
  · exact kept.queueNotice _ _ _
  · exact kept

theorem RecordsKept.enterStep (i : Fin 24) : RecordsKept s (t.enterStep i) :=
  (kept.withSequencer (by rfl)).reevaluateFrame _

theorem RecordsKept.restart_count {q : BackoffSequencer} (zero : q.runCount = 0) : RecordsKept s (t.withSequencer q) := by
  refine ⟨kept.1, kept.2.1, fun _ => ?_⟩
  rw [State.withSequencer_sequencer, zero]
  exact Nat.zero_le _

theorem RecordsKept.beginRun (r : RunParams) : RecordsKept s (t.beginRun r) := by
  have taken : RecordsKept s
      (t.withSequencer { t.sequencer with run := r, repeatsLeft := r.repeats, runCount := 0 }) :=
    kept.restart_count rfl
  unfold State.beginRun
  exact ((((taken.enterStep r.start).withSequencer (by rfl)).queueNotice _ _ _).reevaluateFrame _).testLead

theorem RecordsKept.beginPending (r : RunParams) : RecordsKept s (t.beginPending r) :=
  (kept.withSequencer (by rfl)).beginRun r

theorem RecordsKept.goIdle (m : BitVec 4) (v : Nat) : RecordsKept s (t.goIdle m v) :=
  (((kept.restart_count (q := t.sequencer.idled) rfl).reevaluateFrame _).queueNotice _ _ _).raiseEvent _ _

theorem RecordsKept.endRun : RecordsKept s t.endRun := by
  unfold State.endRun
  split
  next => exact kept.beginPending _
  next =>
    split_ifs
    · exact (kept.withSequencer (by rfl)).reevaluateFrame _
    · exact kept.goIdle _ _

theorem RecordsKept.runningBoundary : RecordsKept s t.runningBoundary := by
  have advanced : RecordsKept s (t.withSequencer t.sequencer.advanced) := by
    refine ⟨kept.1, kept.2.1, fun small => ?_⟩
    rw [State.withSequencer_sequencer, BackoffSequencer.advanced_runCount]
    exact count16_le (kept.2.2 small)
  unfold State.runningBoundary
  dsimp only
  split_ifs
  · exact (advanced.withSequencer (by rfl)).endRun
  · exact ((advanced.withSequencer (by rfl)).enterStep _).testLead
  · exact advanced.endRun
  · exact (advanced.enterStep _).testLead
  · exact advanced.testLead

theorem RecordsKept.holdingBoundary : RecordsKept s t.holdingBoundary := by
  have counted : RecordsKept s (t.withSequencer { t.sequencer with holdCount := t.sequencer.holdCount - 1 }) :=
    kept.withSequencer (by rfl)
  unfold State.holdingBoundary
  split
  next => exact kept.beginPending _
  next =>
    dsimp only
    split_ifs
    · exact counted.goIdle _ _
    · exact counted

theorem RecordsKept.periodBoundary : RecordsKept s t.periodBoundary := by
  unfold State.periodBoundary
  split
  next => exact kept
  next => exact kept
  next => exact kept.beginRun _
  next => exact kept.runningBoundary
  next => exact kept.holdingBoundary

end

/-! #### Resets, and the commands -/

theorem powerOn_eventCounts (i : Fin 9) : EventLatch.powerOn.records[i].count ≤ 255 := by
  revert i
  decide

theorem RecordsKept.powerOn (s : State) (held : Bool) (timer : Timer) (warn crit : Bool) (address : BitVec 7) :
    RecordsKept s (s.powerOn held timer warn crit address) :=
  RecordsKept.cleared List.nodup_nil powerOn_eventCounts (Nat.zero_le _)

theorem RecordsKept.restored (s : State) (k : Contents) : RecordsKept s (s.restored k) :=
  RecordsKept.cleared List.nodup_nil powerOn_eventCounts (Nat.zero_le _)

theorem recordsKept_keptByAnnouncing (s : State) : KeptByAnnouncing (RecordsKept s) where
  elsewhere := by
    intro t u kept notices events sequencer _
    unfold RecordsKept State.NoticeLaw State.EventCounts
    rw [notices, events, sequencer]
    exact kept
  raiseEvent := RecordsKept.raiseEvent
  queueNotice := RecordsKept.queueNotice
  presentTrigger := RecordsKept.presentTrigger

theorem RecordsKept.softReset (s : State) : RecordsKept s s.softReset :=
  (recordsKept_keptByAnnouncing s).softReset (RecordsKept.restored s s.retainedContents)

theorem RecordsKept.clearEvents (s : State) (mask : BitVec 9) :
    RecordsKept s (s.withEvents (s.events.cleared mask)) := by
  refine ⟨id, fun law i => ?_, id⟩
  simp only [State.withEvents_events, EventLatch.cleared, getElem_ofFn_fin]
  split
  next => exact Nat.zero_le _
  next => exact law i

theorem RecordsKept.readNotice {s : State} {n : Notice} {rest : List Notice} (held : s.notices = n :: rest) :
    RecordsKept s (s.withNotices rest) := by
  refine ⟨fun law => ?_, id, id⟩
  rw [State.NoticeLaw, held, List.map_cons] at law
  exact (List.nodup_cons.mp law).2

theorem RecordsKept.freeze (s : State) : RecordsKept s (freezeBlock s).state := by
  have frozen : ∀ was : RememberedState, RecordsKept s (s.freezeFrom was) := fun was =>
    RecordsKept.reevaluateFrame ((RecordsKept.refl s).withSequencer (by rfl)) _
  unfold freezeBlock
  split
  next => exact frozen .running
  next => exact frozen .holding
  all_goals exact RecordsKept.refl s

theorem RecordsKept.thaw (s : State) : RecordsKept s (thawBlock s).state := by
  unfold thawBlock
  split_ifs
  · exact RecordsKept.reevaluateFrame ((RecordsKept.refl s).withSequencer (by rfl)) _
  · exact RecordsKept.refl s

theorem RecordsKept.abortSchedule (s : State) : RecordsKept s (abortScheduleBlock s).state := by
  unfold abortScheduleBlock
  split_ifs
  · exact RecordsKept.refl s
  · exact RecordsKept.goIdle ((RecordsKept.refl s).withSequencer (by rfl)) _ _

theorem RecordsKept.startSchedule (s : State) (p : List Byte) : RecordsKept s (startScheduleBlock p s).state := by
  unfold startScheduleBlock
  split
  next => exact RecordsKept.refl s
  next r _ => exact (RecordsKept.refl s).withSequencer (by simp)

/-- Every command announces through the shared operations, or clears. -/
theorem exec_recordsKept (c : Instr) (s : State) : ∀ t : State, exec c s = .next t → RecordsKept s t := by
  have same : RecordsKept s s := RecordsKept.refl s
  have closed := recordsKept_keptByAnnouncing s
  cases beyond : actsBeyondAnnouncing c
  case false => exact closed.exec beyond same
  case true =>
    cases c <;> simp [actsBeyondAnnouncing] at beyond
    case powerOn a w k =>
      exact leads_of_next (closed.reformTarget (closed.withSupply (RecordsKept.powerOn s _ _ _ _ _) _))
    case rstNAssert => exact leads_of_next (RecordsKept.powerOn s _ _ _ _ _)
    case loadCompletion flash =>
      refine leads_of_unlessHeld same fun _ => ?_
      split
      next => exact closed.completeLoad same
      next => exact same
    case readNotice =>
      refine leads_of_unlessHeld same fun _ => ?_
      split
      next => exact same
      next held => exact closed.answerLink (RecordsKept.readNotice held) _ _
    case linkReset =>
      refine leads_of_unlessHeld same fun _ => closed.answerLink ?_ _ _
      refine ⟨fun _ => ?_, ?_, ?_⟩
      · rw [State.NoticeLaw, State.linkReset]
        exact List.nodup_nil
      · simp [State.EventCounts]
      · simp
    case periodBoundary =>
      refine leads_of_unlessHeld same fun _ => ?_
      split
      next => exact same.periodBoundary
      next => exact same
    all_goals refine policyCommand_keeps rfl same (fun _ _ _ kept => kept) fun _ => ?_
    case abortSchedule => exact RecordsKept.abortSchedule s
    case startSchedule p _ => exact RecordsKept.startSchedule s p
    case freeze => exact RecordsKept.freeze s
    case thaw => exact RecordsKept.thaw s
    case softReset =>
      simp only [blockOf, softResetBlock, State.accept_eq]
      exact RecordsKept.softReset s
    case clearEvents p _ =>
      simp only [blockOf, clearEventsBlock]
      split
      next => exact same
      next m _ => exact RecordsKept.clearEvents s m
    case setAlertMask p _ =>
      simp only [blockOf, setAlertMaskBlock]
      split <;> exact same
    case writeStep p _ =>
      simp only [blockOf, writeStepBlock]
      split
      next => exact same
      next => split_ifs <;> exact same
    case setSequencer p _ =>
      simp only [blockOf, setSequencerBlock]
      split
      next => exact same
      next => split_ifs <;> exact same
    case setTrigger p _ =>
      simp only [blockOf, setTriggerBlock]
      split <;> exact same

theorem exec_keeps_noticeLaw (c : Instr) (s : State) (law : s.NoticeLaw) (t : State) (next : exec c s = .next t) :
    t.NoticeLaw :=
  (exec_recordsKept c s t next).1 law

/-! ### The matcher write -/

/-- The part of the matcher law that is about one matcher. -/
def Matcher.Lawful (m : Matcher) : Prop :=
  m.state = .writing ↔ m.pendingEntry.isSome = true

/-- The matcher law, as the classifier meets it. -/
def BurstClassifier.Lawful (b : BurstClassifier) : Prop :=
  (∀ i : Fin 6, b.matchers[i].Lawful) ∧
    (∀ i j : Fin 6, b.matchers[i].state = .writing → b.matchers[j].state = .writing → i = j) ∧
    (b.timer.isSome = true ↔ b.writing = true)

theorem State.matcherLaw_iff (s : State) : s.MatcherLaw ↔ s.classifier.Lawful := Iff.rfl

theorem BurstClassifier.writing_iff (b : BurstClassifier) :
    b.writing = true ↔ ∃ i : Fin 6, b.matchers[i].state = .writing := by
  simp only [BurstClassifier.writing, List.any_eq_true, beq_iff_eq, Vector.mem_toList_iff, Vector.mem_iff_getElem]
  constructor
  · rintro ⟨m, ⟨i, inside, rfl⟩, writing⟩
    exact ⟨⟨i, inside⟩, writing⟩
  · rintro ⟨i, writing⟩
    exact ⟨_, ⟨i.val, i.isLt, rfl⟩, writing⟩

/-- With no matcher WRITING, no write timer may run. -/
theorem BurstClassifier.lawful_of_idle {b : BurstClassifier} (timer : b.timer = none)
    (idle : ∀ i : Fin 6, b.matchers[i].state ≠ .writing ∧ b.matchers[i].pendingEntry = none) : b.Lawful := by
  refine ⟨fun i => ?_, fun i j writing => absurd writing (idle i).1, ?_⟩
  · obtain ⟨still, none_pending⟩ := idle i
    refine ⟨fun writing => absurd writing still, fun pending => ?_⟩
    rw [none_pending] at pending
    cases pending
  · rw [b.writing_iff, timer]
    simp only [Option.isSome_none, Bool.false_eq_true, false_iff, not_exists]
    exact fun i => (idle i).1

theorem MatcherEntry.matcher_idle (e : MatcherEntry) : e.matcher.state ≠ .writing ∧ e.matcher.pendingEntry = none := by
  refine ⟨?_, rfl⟩
  rw [MatcherEntry.matcher]
  dsimp only
  split_ifs <;> simp

theorem Contents.classifier_lawful (k : Contents) : k.classifier.Lawful := by
  refine BurstClassifier.lawful_of_idle rfl fun i => ?_
  simp only [Contents.classifier, getElem_ofFn_fin]
  exact (k.matchers[i]).matcher_idle

theorem powerOn_classifier_lawful : BurstClassifier.powerOn.Lawful :=
  BurstClassifier.lawful_of_idle rfl (by decide)

theorem Matcher.Lawful.complete_idle {m : Matcher} (law : m.Lawful) :
    m.complete.state ≠ .writing ∧ m.complete.pendingEntry = none := by
  rw [Matcher.complete]
  split
  next e _ _ => exact e.matcher_idle
  next gap =>
    cases entry : m.pendingEntry with
    | none =>
      refine ⟨fun writing => ?_, rfl⟩
      have := law.mp writing
      simp [entry] at this
    | some e => exact absurd entry (gap e (law.mpr (by simp [entry])))

theorem BurstClassifier.Lawful.completeWrite {b : BurstClassifier} (law : b.Lawful) : b.completeWrite.Lawful := by
  refine BurstClassifier.lawful_of_idle rfl fun i => ?_
  simp only [BurstClassifier.completeWrite, getElem_ofFn_fin]
  exact (law.1 i).complete_idle

theorem BurstClassifier.Lawful.beginWrite {b : BurstClassifier} (law : b.Lawful) (idle : b.writing ≠ true) (i : Fin 6)
    (e : MatcherEntry) : (b.beginWrite i e).Lawful := by
  have still : ∀ j : Fin 6, b.matchers[j].state ≠ .writing := fun j writing => idle (b.writing_iff.mpr ⟨j, writing⟩)
  have begun : ∀ j : Fin 6, (b.beginWrite i e).matchers[j] =
      if j = i then { b.matchers[i] with state := .writing, pendingEntry := some e } else b.matchers[j] :=
    fun j => getElem_set_fin _ _ _ _
  have only : ∀ j : Fin 6, (b.beginWrite i e).matchers[j].state = .writing → j = i := fun j writing => by
    rw [begun] at writing
    by_contra other
    rw [if_neg other] at writing
    exact still j writing
  refine ⟨fun j => ?_, fun j k hj hk => (only j hj).trans (only k hk).symm, ?_⟩
  · rw [begun]
    split
    next => exact ⟨fun _ => rfl, fun _ => rfl⟩
    next => exact law.1 j
  · rw [BurstClassifier.writing_iff]
    exact ⟨fun _ => ⟨i, by rw [begun, if_pos rfl]⟩, fun _ => rfl⟩

theorem writeMatcherBlock_keeps_matchers {s : State} (law : s.classifier.Lawful) (p : List Byte) :
    (writeMatcherBlock p s).state.classifier.Lawful := by
  unfold writeMatcherBlock
  split
  next => exact law
  next i e _ =>
    split
    next => exact law
    next idle => exact law.beginWrite idle i e

theorem reset_matcherLaw : State.reset.MatcherLaw :=
  powerOn_classifier_lawful

theorem exec_keeps_matcherLaw (c : Instr) (s : State) (law : s.MatcherLaw) :
    ∀ t : State, exec c s = .next t → t.MatcherLaw := by
  by_cases mayChange : Part.classifier ∈ touched c
  case neg =>
    intro t next
    have same : t.classifier = s.classifier := exec_untouched next mayChange
    rwa [State.matcherLaw_iff, same]
  case pos =>
    cases c <;> simp [touched, allParts] at mayChange
    case powerOn a w k =>
      rw [powerOnSamplesTheLines a w k s]
      exact leads_of_next powerOn_classifier_lawful
    case rstNAssert => exact leads_of_next powerOn_classifier_lawful
    case loadCompletion flash =>
      refine leads_of_unlessHeld law fun _ => ?_
      split
      next =>
        obtain ⟨-, -, -, classifier, -⟩ := s.completeLoad_blocks (chosenContents flash) (chosenStatus flash)
        rw [State.matcherLaw_iff, classifier]
        exact Contents.classifier_lawful _
      next => exact law
    case writeCompletion =>
      refine leads_of_unlessHeld law fun _ => ?_
      split
      next => exact BurstClassifier.Lawful.completeWrite law
      next => exact law
    case writeClass p =>
      refine policyCommand_keeps rfl law (fun _ _ _ kept => kept) fun _ => ?_
      simp only [blockOf, writeClassBlock]
      split <;> exact law
    case setServiceMap p =>
      refine policyCommand_keeps rfl law (fun _ _ _ kept => kept) fun _ => ?_
      simp only [blockOf, setServiceMapBlock]
      split <;> exact law
    case writeMatcher p =>
      exact policyCommand_keeps rfl law (fun _ _ _ kept => kept) fun _ => writeMatcherBlock_keeps_matchers law p
    case softReset p =>
      refine policyCommand_keeps rfl law (fun _ _ _ kept => kept) fun _ => ?_
      obtain ⟨-, -, -, -, -, classifier, -⟩ := s.softReset_blocks
      simp only [blockOf, softResetBlock, State.accept_eq, State.matcherLaw_iff, classifier]
      exact Contents.classifier_lawful _

/-! ### The chains' counters -/

/-- A chain's figures in the Grant Engine lie below their maximum. -/
def EngineChain.Lawful (e : EngineChain) : Prop :=
  e.issued ≤ 65535 ∧ e.reduced ≤ 65535 ∧ e.withheld ≤ 65535

/-- No counter of any chain passes its maximum. -/
def State.ChainCounts (s : State) : Prop :=
  ∀ c : Chain, s.engine[c].Lawful ∧ s.grants.chains[c].lateCloses ≤ 65535

theorem EngineChain.Lawful.countWithheld {e : EngineChain} (law : e.Lawful) (factor : Factor) :
    (e.countWithheld factor).Lawful := by
  obtain ⟨issued, reduced, withheld⟩ := law
  exact ⟨issued, reduced, count16_le withheld⟩

theorem EngineChain.Lawful.countIssued {e : EngineChain} (law : e.Lawful) (lower : Bool) (factor : Factor) :
    (e.countIssued lower factor).Lawful := by
  obtain ⟨issued, reduced, withheld⟩ := law
  cases lower
  · exact ⟨count16_le issued, reduced, withheld⟩
  · exact ⟨count16_le issued, count16_le reduced, withheld⟩

section
variable {s : State} (law : s.ChainCounts) (c : Chain)
include law

theorem State.ChainCounts.setEngine {e : EngineChain} (lawful : e.Lawful) : (s.setEngine c e).ChainCounts := by
  refine fun d => ⟨?_, (law d).2⟩
  simp only [State.setEngine, State.withEngine_engine, getElem_set_fin]
  split
  next => exact lawful
  next => exact (law d).1

/-- A chain of the Grant Table changes, its late-close counter within bounds. -/
theorem State.ChainCounts.set_chain {g : GrantChain} (late : g.lateCloses ≤ 65535) (poolSum : Nat) :
    (s.withGrants ⟨s.grants.chains.set c g, poolSum⟩).ChainCounts := by
  refine fun d => ⟨(law d).1, ?_⟩
  simp only [State.withGrants_grants, getElem_set_fin]
  split
  next => exact late
  next => exact (law d).2

theorem State.ChainCounts.openGrant (r : OpenGrant) : (s.openGrant c r).ChainCounts :=
  law.set_chain c (g := (s.grants.chains[c]).enlist r) (law c).2 _

theorem State.ChainCounts.removeGrant (r : OpenGrant) : (s.removeGrant c r).ChainCounts :=
  law.set_chain c (g := (s.grants.chains[c]).release r) (law c).2 _

theorem State.ChainCounts.lateClose : (s.lateClose c).ChainCounts :=
  law.set_chain c (count16_le (law c).2) _

theorem State.ChainCounts.withhold (chain tag : Byte) (reason : WithheldReason) (factor : Factor) (cls : Nat) :
    (s.withhold c chain tag reason factor cls).state.ChainCounts :=
  law.setEngine c ((law c).1.countWithheld factor)

theorem State.ChainCounts.issueOrWithhold (chain tag : Byte) (preq d cls : Nat) (factor : Factor) (g : Option Nat) :
    (s.issueOrWithhold c chain tag preq d cls factor g).state.ChainCounts := by
  obtain ⟨-, low⟩ | ⟨p, -, -, issued⟩ := s.issueOrWithhold_cases c chain tag preq d cls factor g
  · rw [low]
    exact law.withhold c _ _ _ _ _
  · rw [issued]
    exact (law.setEngine c ((law c).1.countIssued _ factor)).openGrant c _

theorem State.ChainCounts.takeRequest (chain tag : Byte) (preq d : Nat) (desc : Descriptor) :
    (s.takeRequest chain tag preq d desc).state.ChainCounts := by
  cases refusal : s.refusalOf chain tag d with
  | some code =>
    rw [State.takeRequest_of_refused refusal]
    exact law
  | none =>
    obtain ⟨c, valid, -⟩ := (s.refusalOf_eq_none_iff chain tag d).mp refusal
    rw [State.takeRequest_of_accepted valid refusal]
    split
    next =>
      obtain withheld | ⟨factor, g, -, issued⟩ :=
        s.decision_cases c chain tag preq d (s.classify desc).1 (s.classify desc).2
      · rw [withheld]
        exact law.withhold c _ _ _ _ _
      · rw [issued]
        exact law.issueOrWithhold c _ _ _ _ _ _ _
    next => exact law.withhold c _ _ _ _ _

theorem State.ChainCounts.of_same {t : State} (engine : t.engine = s.engine) (grants : t.grants = s.grants) :
    t.ChainCounts := by
  unfold State.ChainCounts
  rw [engine, grants]
  exact law

theorem State.ChainCounts.closeRecord (g : OpenGrant) (pact dact r : Nat) :
    (s.closeRecord c g pact dact r).ChainCounts :=
  State.ChainCounts.of_same (law.removeGrant c g) (by simp) (s.closeRecord_grants c g pact dact r)

theorem State.ChainCounts.lapseGrant (g : OpenGrant) : (s.lapseGrant c g).ChainCounts :=
  State.ChainCounts.of_same (law.removeGrant c g) (by simp) (s.lapseGrant_grants c g)

theorem State.ChainCounts.closeOn (tag : Byte) (pact dact r : Nat) :
    (s.closeOn c tag pact dact r).state.ChainCounts := by
  rw [State.closeOn]
  split
  next => exact law.lateClose c
  next =>
    split
    next => exact law.closeRecord c _ _ _ _
    next =>
      split
      next => exact law.lateClose c
      next => exact (law.lapseGrant c _).closeRecord c _ _ _ _

theorem State.ChainCounts.takeLapse (tag : Byte) : (s.takeLapse c tag).ChainCounts := by
  rw [State.takeLapse]
  split
  next => exact law
  next => exact law.lapseGrant c _

theorem State.ChainCounts.linkReset : s.linkReset.ChainCounts := by
  intro c
  have engine : s.linkReset.engine = s.engine := by simp
  have late : s.linkReset.grants.chains[c].lateCloses = s.grants.chains[c].lateCloses := by
    simp [State.linkReset, GrantTable.emptied, allChains]
  rw [engine, late]
  exact law c

theorem State.ChainCounts.zeroCounters : (s.zeroCounters c).ChainCounts := by
  refine State.ChainCounts.set_chain (law.setEngine c ?_) c (Nat.zero_le _) _
  exact ⟨Nat.zero_le _, Nat.zero_le _, Nat.zero_le _⟩

end

theorem chainCounts_of_cleared {s : State} (engine : s.engine = Vector.replicate 4 EngineChain.zero)
    (grants : s.grants = ⟨Vector.replicate 4 GrantChain.zero, 0⟩) : s.ChainCounts := by
  unfold State.ChainCounts EngineChain.Lawful
  rw [engine, grants]
  decide

theorem exec_keeps_chainCounts (c : Instr) (s : State) (law : s.ChainCounts) :
    ∀ t : State, exec c s = .next t → t.ChainCounts := by
  by_cases mayChange : Part.engine ∈ touched c ∨ Part.grants ∈ touched c
  case neg =>
    intro t next
    obtain ⟨h1, h2⟩ := not_or.mp mayChange
    exact law.of_same (exec_untouched next h1) (exec_untouched next h2)
  case pos =>
    cases c <;> simp [touched, allParts] at mayChange
    case powerOn a w k =>
      rw [powerOnSamplesTheLines a w k s]
      exact leads_of_next (chainCounts_of_cleared rfl rfl)
    case rstNAssert => exact leads_of_next (chainCounts_of_cleared rfl rfl)
    case burstReq chain tag preq d desc =>
      exact leads_of_unlessHeld law fun _ => law.takeRequest chain tag _ _ desc
    case burstClose chain tag pact d r =>
      refine leads_of_unlessHeld law fun _ => ?_
      split
      next => exact law
      next c _ => exact law.closeOn c tag _ _ _
    case linkReset =>
      refine leads_of_unlessHeld law fun _ => ?_
      have emptied : s.linkReset.ChainCounts := law.linkReset
      exact State.ChainCounts.of_same emptied (by simp) (by simp)
    case lapse c tag => exact leads_of_unlessHeld law fun _ => law.takeLapse c tag
    case readChain p =>
      refine policyCommand_keeps rfl law (fun _ _ _ kept => kept) fun _ => ?_
      simp only [blockOf, readChainBlock]
      split
      next => exact law
      next =>
        dsimp only
        split_ifs
        · exact law.zeroCounters _
        · exact law
    case softReset p =>
      refine policyCommand_keeps rfl law (fun _ _ _ kept => kept) fun _ => ?_
      obtain ⟨-, engine, grants, -⟩ := s.softReset_blocks
      simp only [blockOf, softResetBlock, State.accept_eq]
      exact chainCounts_of_cleared engine grants

/-! ### The mismatch counts and the invalid runs -/

/-- A chain's mismatch counts lie below their maximum. -/
def MismatchChain.Lawful (m : MismatchChain) : Prop :=
  m.overRun ≤ 15 ∧ m.underRun ≤ 15

/-- No mismatch count of any chain passes its maximum. -/
def MismatchMonitor.Counts (m : MismatchMonitor) : Prop :=
  ∀ c : Chain, m.chains[c].Lawful

theorem countRun_le (n : Nat) : countRun n ≤ 15 :=
  Nat.min_le_right _ _

theorem clear_counts (settings : MismatchSettings) :
    MismatchMonitor.Counts ⟨settings, Vector.replicate 4 ⟨.clear, 0, 0⟩⟩ := by
  have clear : ∀ c : Chain, (Vector.replicate 4 (⟨.clear, 0, 0⟩ : MismatchChain))[c].Lawful := by
    unfold MismatchChain.Lawful
    decide
  exact clear

theorem MismatchMonitor.Counts.setMismatch {s : State} (law : s.mismatch.Counts) (c : Chain) {m : MismatchChain}
    (lawful : m.Lawful) : (s.setMismatch c m).mismatch.Counts := by
  intro d
  simp only [State.setMismatch, State.withMismatch_mismatch, getElem_set_fin]
  split
  next => exact lawful
  next => exact law d

theorem State.enterMismatch_mismatch (s : State) (c : Chain) :
    (s.enterMismatch c).mismatch = (s.setMismatch c ⟨.mismatched, 0, 0⟩).mismatch := by
  simp [State.enterMismatch]

theorem State.leaveMismatch_mismatch (s : State) (c : Chain) :
    (s.leaveMismatch c).mismatch = (s.setMismatch c ⟨.clear, 0, 0⟩).mismatch := by
  simp [State.leaveMismatch]

theorem MismatchMonitor.Counts.reflectCode {s : State} (law : s.mismatch.Counts) (c : Chain) (r : Nat) :
    (s.reflectCode c r).mismatch.Counts := by
  obtain ⟨overBound, underBound⟩ := law c
  unfold State.reflectCode
  dsimp only
  split
  next =>
    split_ifs
    · rw [State.enterMismatch_mismatch]
      exact law.setMismatch c ⟨Nat.zero_le _, Nat.zero_le _⟩
    · exact law.setMismatch c ⟨countRun_le _, underBound⟩
    · exact law.setMismatch c ⟨Nat.zero_le _, underBound⟩
  next =>
    split_ifs
    · rw [State.leaveMismatch_mismatch]
      exact law.setMismatch c ⟨Nat.zero_le _, Nat.zero_le _⟩
    · exact law.setMismatch c ⟨overBound, countRun_le _⟩
    · exact law.setMismatch c ⟨overBound, Nat.zero_le _⟩

theorem MismatchMonitor.Counts.closeRecord {s : State} (law : s.mismatch.Counts) (c : Chain) (g : OpenGrant)
    (pact dact r : Nat) : (s.closeRecord c g pact dact r).mismatch.Counts := by
  have tested : (if excessClose g pact dact then s.raiseEvent .excess (eventMask (chainBit c))
      else s).mismatch.Counts := by
    split_ifs <;> exact law
  unfold State.closeRecord
  dsimp only
  split
  next => exact MismatchMonitor.Counts.reflectCode (s := State.charge _ c pact dact) tested c r
  next => exact tested

theorem MismatchMonitor.Counts.closeOn {s : State} (law : s.mismatch.Counts) (c : Chain) (tag : Byte)
    (pact dact r : Nat) : (s.closeOn c tag pact dact r).state.mismatch.Counts := by
  have lapsed : ∀ g : OpenGrant, (s.lapseGrant c g).mismatch.Counts := fun g => by simpa using law
  rw [State.closeOn]
  split
  next => exact law
  next =>
    split
    next => exact law.closeRecord c _ _ _ _
    next =>
      split
      next => exact law
      next => exact (lapsed _).closeRecord c _ _ _ _

theorem exec_keeps_mismatchCounts (c : Instr) (s : State) (law : s.mismatch.Counts) :
    ∀ t : State, exec c s = .next t → t.mismatch.Counts := by
  by_cases mayChange : Part.mismatch ∈ touched c
  case neg =>
    intro t next
    have same : t.mismatch = s.mismatch := exec_untouched next mayChange
    rwa [same]
  case pos =>
    cases c <;> simp [touched, allParts] at mayChange
    case powerOn a w k =>
      rw [powerOnSamplesTheLines a w k s]
      exact leads_of_next (clear_counts _)
    case rstNAssert => exact leads_of_next (clear_counts _)
    case loadCompletion flash =>
      refine leads_of_unlessHeld law fun _ => ?_
      split
      next =>
        obtain ⟨-, -, -, -, -, -, -, mismatch⟩ := s.completeLoad_blocks (chosenContents flash) (chosenStatus flash)
        rw [mismatch]
        exact law
      next => exact law
    case burstClose chain tag pact d r =>
      refine leads_of_unlessHeld law fun _ => ?_
      split
      next => exact law
      next c _ => exact law.closeOn c tag _ _ _
    case setMismatch p => exact policyCommand_keeps rfl law (fun _ _ _ kept => kept) fun _ => law
    case softReset p =>
      refine policyCommand_keeps rfl law (fun _ _ _ kept => kept) fun _ => ?_
      obtain ⟨-, -, -, -, -, -, mismatch, -⟩ := s.softReset_blocks
      simp only [blockOf, softResetBlock, State.accept_eq, mismatch]
      exact clear_counts _

/-- No invalid run of any input passes its maximum. -/
def SensorScanner.Counts (r : SensorScanner) : Prop :=
  ∀ i : Input, r.inputs[i].invalidRun ≤ 4

theorem powerOn_scanner_counts : SensorScanner.powerOn.Counts := by
  unfold SensorScanner.Counts
  decide

theorem SensorScanner.Counts.set_input {r : SensorScanner} (law : r.Counts) (i : Input) {x : SensorRecord}
    (run : x.invalidRun ≤ 4) : SensorScanner.Counts { r with inputs := r.inputs.set i x } := by
  intro j
  simp only [getElem_set_fin]
  split
  next => exact run
  next => exact law j

theorem SensorRecord.take_invalidRun_le (r : SensorRecord) (k : Calibration) (raw : BitVec 12) :
    (r.take k raw).invalidRun ≤ 4 := by
  rw [SensorRecord.take]
  split_ifs
  · exact Nat.zero_le _
  · exact Nat.min_le_right _ _

theorem exec_keeps_scannerCounts (c : Instr) (s : State) (law : s.scanner.Counts) :
    ∀ t : State, exec c s = .next t → t.scanner.Counts := by
  by_cases mayChange : Part.scanner ∈ touched c
  case neg =>
    intro t next
    have same : t.scanner = s.scanner := exec_untouched next mayChange
    rwa [same]
  case pos =>
    cases c <;> simp [touched, allParts] at mayChange
    case powerOn a w k =>
      rw [powerOnSamplesTheLines a w k s]
      exact leads_of_next powerOn_scanner_counts
    case rstNAssert => exact leads_of_next powerOn_scanner_counts
    case loadCompletion flash =>
      refine leads_of_unlessHeld law fun _ => ?_
      split
      next =>
        obtain ⟨-, scanner, -⟩ := s.completeLoad_blocks (chosenContents flash) (chosenStatus flash)
        rw [scanner]
        intro i
        simp only [SensorScanner.load, SensorScanner.begin, getElem_ofFn_fin]
        exact law i
      next => exact law
    case conversionTimerExpiry raw =>
      refine leads_of_unlessHeld law fun _ => ?_
      split
      next v _ _ =>
        rw [(s.takeConversion_blocks v raw).1]
        exact law.set_input v.input (SensorRecord.take_invalidRun_le _ _ _)
      next => exact law
    case setSensorCal p =>
      refine policyCommand_keeps rfl law (fun _ _ _ kept => kept) fun _ => ?_
      simp only [blockOf, setSensorCalBlock]
      split
      next => exact law
      next i _ _ => exact law.set_input i (law i)

/-! ### The counter law -/

theorem State.counterLaw_iff (s : State) :
    s.CounterLaw ↔ s.ChainCounts ∧ s.EventCounts ∧ s.sequencer.runCount ≤ 65535 ∧ s.mismatch.Counts ∧
      s.scanner.Counts := by
  simp only [State.CounterLaw, State.ChainCounts, EngineChain.Lawful, State.EventCounts, MismatchMonitor.Counts,
    MismatchChain.Lawful, SensorScanner.Counts, and_assoc]

theorem reset_counterLaw : State.reset.CounterLaw := by
  rw [State.counterLaw_iff]
  exact ⟨chainCounts_of_cleared rfl rfl, powerOn_eventCounts, Nat.zero_le _, clear_counts _, powerOn_scanner_counts⟩

theorem exec_keeps_counterLaw (c : Instr) (s : State) (law : s.CounterLaw) (t : State) (next : exec c s = .next t) :
    t.CounterLaw := by
  rw [State.counterLaw_iff] at law ⊢
  obtain ⟨chains, events, run, mismatch, scanner⟩ := law
  obtain ⟨-, eventsKept, runKept⟩ := exec_recordsKept c s t next
  exact ⟨exec_keeps_chainCounts c s chains t next, eventsKept events, runKept run,
    exec_keeps_mismatchCounts c s mismatch t next, exec_keeps_scannerCounts c s scanner t next⟩

/-- Settles O59: notices coalesce, a second matcher write is refused, and every counter saturates or is bounded. -/
theorem stepKeepsNoticeMatcherAndCounterLaws : Obligations.StepKeepsNoticeMatcherAndCounterLaws := by
  unfold Obligations.StepKeepsNoticeMatcherAndCounterLaws
  exact ⟨step_keeps_of_exec (fun _ _ law => law) exec_keeps_noticeLaw,
    step_keeps_of_exec (fun _ _ law => law) exec_keeps_matcherLaw,
    step_keeps_of_exec (fun _ _ law => law) exec_keeps_counterLaw⟩

end Sys2Proof.Machine
end

section
/-! Proofs about chapter 8: what the sequencer's operations come to, as whole states. -/

namespace Sys2Proof.Machine

/-! ### Frames and the end-notice lead -/

/-- The queue once the frame is re-evaluated: what becomes due is told with the current step, what ends with the step
whose frame it was (R125). -/
def BackoffSequencer.frameTold (q : BackoffSequencer) (before : Fin 24) (queue : List Notice) : List Notice :=
  if q.frameDue && !q.frame then arrive ⟨.frameEnter, q.current.mask, BitVec.ofNat 16 q.step.val⟩ queue
  else if !q.frameDue && q.frame then
    arrive ⟨.frameLeave, q.program[before].mask, BitVec.ofNat 16 before.val⟩ queue
  else queue

/-- The queue once the lead is tested (R126). -/
def BackoffSequencer.leadTold (q : BackoffSequencer) (queue : List Notice) : List Notice :=
  if 0 < q.settings.lead ∧ q.remaining = q.settings.lead then
    arrive ⟨.scheduleEnding, q.current.mask, BitVec.ofNat 16 q.settings.lead⟩ queue
  else queue

theorem BackoffSequencer.frameDue_of_running {q : BackoffSequencer} (running : q.state = .running) :
    q.frameDue = q.current.frame := by
  simp [BackoffSequencer.frameDue, running]

theorem BackoffSequencer.frameDue_of_frozen {q : BackoffSequencer} (frozen : q.state = .frozen) :
    q.frameDue = q.current.frame := by
  simp [BackoffSequencer.frameDue, frozen]

theorem BackoffSequencer.frameDue_of_still {q : BackoffSequencer} (not_running : q.state ≠ .running)
    (not_frozen : q.state ≠ .frozen) : q.frameDue = false := by
  simp [BackoffSequencer.frameDue, not_running, not_frozen]

/-- Nothing is told of a frame that stands as it is due. -/
theorem BackoffSequencer.frameTold_of_due {q : BackoffSequencer} (due : q.frame = q.frameDue) (before : Fin 24)
    (queue : List Notice) : q.frameTold before queue = queue := by
  rw [BackoffSequencer.frameTold, due]
  cases q.frameDue <;> rfl

/-! ### The sequencer and the queue together -/

/-- The frame is put on or off. -/
def BackoffSequencer.withFrame (q : BackoffSequencer) (x : Bool) : BackoffSequencer :=
  { q with frame := x }

/-- The sequencer is put in a state. -/
def BackoffSequencer.withState (q : BackoffSequencer) (x : SequencerState) : BackoffSequencer :=
  { q with state := x }

/-- The sequencer and the Notice Queue change. -/
def State.withRun (s : State) (q : BackoffSequencer) (queue : List Notice) : State :=
  (s.withSequencer q).withNotices queue

theorem State.reevaluateFrame_eq (s : State) (before : Fin 24) :
    s.reevaluateFrame before =
      s.withRun (s.sequencer.withFrame s.sequencer.frameDue) (s.sequencer.frameTold before s.notices) := by
  unfold State.reevaluateFrame BackoffSequencer.frameTold
  dsimp only
  split_ifs <;> rfl

theorem State.testLead_eq (s : State) : s.testLead = s.withRun s.sequencer (s.sequencer.leadTold s.notices) := by
  unfold State.testLead BackoffSequencer.leadTold
  dsimp only
  split_ifs <;> rfl

section
variable (s : State) (q : BackoffSequencer) (queue : List Notice)

@[simp] theorem State.withRun_sequencer : (s.withRun q queue).sequencer = q := rfl

@[simp] theorem State.withRun_notices : (s.withRun q queue).notices = queue := rfl

@[simp] theorem State.withRun_withSequencer (u : BackoffSequencer) :
    (s.withRun q queue).withSequencer u = s.withRun u queue := rfl

theorem State.withRun_queueNotice (kind : NoticeKind) (m : BitVec 4) (v : Nat) :
    (s.withRun q queue).queueNotice kind m v = s.withRun q (arrive ⟨kind, m, BitVec.ofNat 16 v⟩ queue) := rfl

theorem State.withRun_reevaluateFrame (before : Fin 24) :
    (s.withRun q queue).reevaluateFrame before =
      s.withRun (q.withFrame q.frameDue) (q.frameTold before queue) := by
  rw [State.reevaluateFrame_eq]
  rfl

theorem State.withRun_testLead : (s.withRun q queue).testLead = s.withRun q (q.leadTold queue) := by
  rw [State.testLead_eq]
  rfl

theorem State.withRun_enterStep (i : Fin 24) :
    (s.withRun q queue).enterStep i =
      s.withRun ((q.enter i).withFrame (q.enter i).frameDue) ((q.enter i).frameTold q.step queue) := by
  rw [State.enterStep, State.withRun_sequencer, State.withRun_withSequencer, State.withRun_reevaluateFrame]

/-! ### Step entry and runs -/

/-- The sequencer when a step has been entered in RUNNING. -/
def BackoffSequencer.entered (q : BackoffSequencer) (i : Fin 24) : BackoffSequencer :=
  (q.enter i).withFrame (q.program[i]).frame

theorem State.withRun_enterStep_of_running (running : q.state = .running) (i : Fin 24) :
    (s.withRun q queue).enterStep i = s.withRun (q.entered i) ((q.enter i).frameTold q.step queue) := by
  have due : (q.enter i).frameDue = (q.program[i]).frame := BackoffSequencer.frameDue_of_running running
  rw [State.withRun_enterStep, due]
  rfl

/-- The sequencer when a run has begun in RUNNING at its start step (R127). -/
def BackoffSequencer.begun (q : BackoffSequencer) (r : RunParams) : BackoffSequencer :=
  let p := q.program[r.start]
  { q with
    state := .running
    run := r
    step := r.start
    b0 := q.b
    b := if p.ramp = .hold then p.target else q.b
    k := 0
    increment := if p.ramp = .accel then p.accel else q.increment
    runCount := 0
    repeatsLeft := r.repeats
    frame := p.frame }

/-- The SCHEDULE_START of a run (R127). -/
def BackoffSequencer.startNotice (q : BackoffSequencer) (r : RunParams) : Notice :=
  ⟨.scheduleStart, (q.program[r.start]).mask, BitVec.ofNat 16 (r.start.val * 256 + r.stop.val)⟩

/-- The run's parameters are taken, its first step not yet entered (R127, step 1). -/
def BackoffSequencer.taken (q : BackoffSequencer) (r : RunParams) : BackoffSequencer :=
  { q with run := r, repeatsLeft := r.repeats, runCount := 0 }

/-- The first step is entered, its frame on or off, and the sequencer put in RUNNING. -/
def BackoffSequencer.nearlyBegun (q : BackoffSequencer) (r : RunParams) (frame : Bool) : BackoffSequencer :=
  (q.begun r).withFrame frame

omit s q queue in
theorem State.beginRun_of_entered {s e : State} {r : RunParams}
    (entered : (s.withSequencer (s.sequencer.taken r)).enterStep r.start = e) :
    s.beginRun r =
      ((e.withSequencer (e.sequencer.withState .running)).queueNotice .scheduleStart e.sequencer.current.mask
        (r.start.val * 256 + r.stop.val)
        |>.reevaluateFrame r.start).testLead := by
  subst entered
  rfl

theorem State.withRun_beginRun (r : RunParams) :
    (s.withRun q queue).beginRun r =
      s.withRun (q.begun r) ((q.begun r).leadTold
        ((q.nearlyBegun r ((q.taken r).enter r.start).frameDue).frameTold r.start
          (arrive (q.startNotice r) (((q.taken r).enter r.start).frameTold q.step queue)))) := by
  have due : ∀ x : Bool, (q.nearlyBegun r x).frameDue = (q.program[r.start]).frame := fun x =>
    BackoffSequencer.frameDue_of_running rfl
  have whole : ∀ x : Bool, (q.nearlyBegun r x).withFrame (q.nearlyBegun r x).frameDue = q.begun r := fun x => by
    rw [due]
    rfl
  rw [State.beginRun_of_entered (s := s.withRun q queue) (State.withRun_enterStep s (q.taken r) queue r.start)]
  change (State.reevaluateFrame (State.queueNotice (s.withRun (q.nearlyBegun r _) _) _ _ _) _).testLead = _
  rw [State.withRun_queueNotice, State.withRun_reevaluateFrame, whole, State.withRun_testLead]
  rfl

/-- From a state with no frame due, the frame comes on after SCHEDULE_START. -/
theorem State.withRun_beginRun_of_still (not_running : q.state ≠ .running) (not_frozen : q.state ≠ .frozen)
    (off : q.frame = false) (r : RunParams) :
    (s.withRun q queue).beginRun r =
      s.withRun (q.begun r) ((q.begun r).leadTold
        (if (q.program[r.start]).frame then
          arrive ⟨.frameEnter, (q.program[r.start]).mask, BitVec.ofNat 16 r.start.val⟩ (arrive (q.startNotice r) queue)
        else arrive (q.startNotice r) queue)) := by
  have due : ((q.taken r).enter r.start).frameDue = false := BackoffSequencer.frameDue_of_still not_running not_frozen
  have quiet : ((q.taken r).enter r.start).frameTold q.step queue = queue :=
    BackoffSequencer.frameTold_of_due (q := (q.taken r).enter r.start) (Eq.trans off due.symm) _ _
  have comes : (q.nearlyBegun r false).frameDue = (q.program[r.start]).frame :=
    BackoffSequencer.frameDue_of_running rfl
  rw [State.withRun_beginRun, quiet, due, BackoffSequencer.frameTold, comes]
  cases (q.program[r.start]).frame <;> rfl

/-- From RUNNING the frame is re-evaluated at the entry, before SCHEDULE_START. -/
theorem State.withRun_beginRun_of_running (running : q.state = .running) (r : RunParams) :
    (s.withRun q queue).beginRun r =
      s.withRun (q.begun r) ((q.begun r).leadTold
        (arrive (q.startNotice r) (((q.taken r).enter r.start).frameTold q.step queue))) := by
  have due : ((q.taken r).enter r.start).frameDue = (q.program[r.start]).frame :=
    BackoffSequencer.frameDue_of_running running
  have stands : (q.nearlyBegun r (q.program[r.start]).frame).frame =
      (q.nearlyBegun r (q.program[r.start]).frame).frameDue :=
    (BackoffSequencer.frameDue_of_running (q := q.nearlyBegun r (q.program[r.start]).frame) rfl).symm
  rw [State.withRun_beginRun, due, BackoffSequencer.frameTold_of_due stands]

/-! ### The ends of a run -/

/-- The queue once the frame, if it was on, has ended with its step (R125). -/
def BackoffSequencer.leaveTold (q : BackoffSequencer) (queue : List Notice) : List Notice :=
  if q.frame then arrive ⟨.frameLeave, q.current.mask, BitVec.ofNat 16 q.step.val⟩ queue else queue

theorem BackoffSequencer.frameTold_of_still (not_running : q.state ≠ .running) (not_frozen : q.state ≠ .frozen) :
    q.frameTold q.step queue = q.leaveTold queue := by
  rw [BackoffSequencer.frameTold, BackoffSequencer.frameDue_of_still not_running not_frozen,
    BackoffSequencer.leaveTold]
  cases q.frame <;> rfl

/-- The sequencer goes to IDLE with SCHEDULE_END after the frame's end (R130, R133). -/
theorem State.withRun_goIdle (mask : BitVec 4) (value : Nat) :
    (s.withRun q queue).goIdle mask value =
      (s.withRun (q.idled.withFrame false)
        (arrive ⟨.scheduleEnd, mask, BitVec.ofNat 16 value⟩ (q.leaveTold queue))).raiseEvent .scheduleEnd
          (eventMask mask) := by
  have not_running : q.idled.state ≠ .running := fun idle => nomatch idle
  have not_frozen : q.idled.state ≠ .frozen := fun idle => nomatch idle
  have told : q.idled.frameTold q.step queue = q.leaveTold queue :=
    BackoffSequencer.frameTold_of_still q.idled queue not_running not_frozen
  unfold State.goIdle
  dsimp only
  rw [State.withRun_sequencer, State.withRun_withSequencer, State.withRun_reevaluateFrame, told,
    BackoffSequencer.frameDue_of_still not_running not_frozen, State.withRun_queueNotice]

/-- The sequencer as it goes to HOLDING (R131). -/
def BackoffSequencer.toHolding (q : BackoffSequencer) : BackoffSequencer :=
  { q with state := .holding, holdCount := q.settings.holdAfter }

/-- A run ends with no start pending and a hold set (R130, R131). -/
theorem State.withRun_endRun_holding (absent : q.pendingStart = none) (hold : 0 < q.settings.holdAfter) :
    (s.withRun q queue).endRun = s.withRun (q.toHolding.withFrame false) (q.leaveTold queue) := by
  have not_running : q.toHolding.state ≠ .running := fun h => nomatch h
  have not_frozen : q.toHolding.state ≠ .frozen := fun h => nomatch h
  have told : q.toHolding.frameTold q.step queue = q.leaveTold queue :=
    BackoffSequencer.frameTold_of_still q.toHolding queue not_running not_frozen
  have unfolded : (s.withRun q queue).endRun = (s.withRun q.toHolding queue).reevaluateFrame q.step := by
    unfold State.endRun
    rw [State.withRun_sequencer, absent]
    dsimp only
    rw [if_pos hold]
    rfl
  rw [unfolded, State.withRun_reevaluateFrame, told, BackoffSequencer.frameDue_of_still not_running not_frozen]

/-- A run ends with no start pending and no hold, as completion (R130). -/
theorem State.withRun_endRun_complete (absent : q.pendingStart = none) (hold : q.settings.holdAfter = 0) :
    (s.withRun q queue).endRun = (s.withRun q queue).goIdle q.current.mask 0 := by
  unfold State.endRun
  rw [State.withRun_sequencer, absent]
  dsimp only
  rw [if_neg (by omega)]
  rfl

/-- The pending start becomes absent (R127, step 1). -/
def BackoffSequencer.withoutPending (q : BackoffSequencer) : BackoffSequencer :=
  { q with pendingStart := none }

/-- A run ends into the start that is pending (R130). -/
theorem State.withRun_endRun_pending {r : RunParams} (present : q.pendingStart = some r) :
    (s.withRun q queue).endRun = (s.withRun q.withoutPending queue).beginRun r := by
  unfold State.endRun
  rw [State.withRun_sequencer, present]
  rfl

end

/-! ### Period boundaries -/

theorem BackoffSequencer.advanced_frame (q : BackoffSequencer) :
    q.advanced.program = q.program ∧ q.advanced.settings = q.settings ∧ q.advanced.state = q.state ∧
    q.advanced.run = q.run ∧ q.advanced.step = q.step ∧ q.advanced.b0 = q.b0 ∧ q.advanced.k = q.k + 1 ∧
    q.advanced.repeatsLeft = q.repeatsLeft ∧ q.advanced.pendingStart = q.pendingStart ∧
    q.advanced.frame = q.frame ∧ q.advanced.current = q.current := by
  simp only [BackoffSequencer.advanced, BackoffSequencer.current, BackoffSequencer.ramped_frame]
  trivial

/-- Advanced so far, the run ends: at its breakpoint, or at the last period of its last step (R129). -/
def BackoffSequencer.EndsRun (q : BackoffSequencer) : Prop :=
  (q.settings.breakpoint ≠ 0 ∧ q.runCount = q.settings.breakpoint) ∨
    (q.k = q.current.dwell ∧ q.step = q.run.stop ∧ q.repeatsLeft = 0)

/-- No repeat of the run is left. -/
def BackoffSequencer.lastRepeat (q : BackoffSequencer) : BackoffSequencer :=
  { q with repeatsLeft := 0 }

/-- The step that follows, the start step when the run's last one repeats. -/
def BackoffSequencer.following (q : BackoffSequencer) : Fin 24 :=
  if q.step = q.run.stop then q.run.start else q.step + 1

/-- One repeat fewer is left once the run's last step has passed. -/
def BackoffSequencer.counted (q : BackoffSequencer) : BackoffSequencer :=
  { q with repeatsLeft := if q.step = q.run.stop then q.repeatsLeft - 1 else q.repeatsLeft }

/-- A running boundary, by the figures it advances to (R129). -/
theorem State.runningBoundary_eq (s : State) {q : BackoffSequencer} (advanced : s.sequencer.advanced = q) :
    s.runningBoundary =
      if q.settings.breakpoint ≠ 0 ∧ q.runCount = q.settings.breakpoint then
        (s.withRun q.lastRepeat s.notices).endRun
      else if q.k = q.current.dwell then
        if q.step = q.run.stop then
          if 0 < q.repeatsLeft then
            ((s.withRun { q with repeatsLeft := q.repeatsLeft - 1 } s.notices).enterStep q.run.start).testLead
          else (s.withRun q s.notices).endRun
        else ((s.withRun q s.notices).enterStep (q.step + 1)).testLead
      else (s.withRun q s.notices).testLead := by
  subst advanced
  rfl

section
variable {s : State} {q : BackoffSequencer} (advanced : s.sequencer.advanced = q)
include advanced

theorem State.runningBoundary_of_ends (ends : q.EndsRun) :
    s.runningBoundary = (s.withRun q.lastRepeat s.notices).endRun := by
  rw [s.runningBoundary_eq advanced]
  by_cases broken : q.settings.breakpoint ≠ 0 ∧ q.runCount = q.settings.breakpoint
  · rw [if_pos broken]
  · obtain ⟨at_last, at_stop, none_left⟩ := ends.resolve_left broken
    have same : q.lastRepeat = q := by rw [BackoffSequencer.lastRepeat, ← none_left]
    rw [if_neg broken, if_pos at_last, if_pos at_stop, if_neg (by omega), same]

theorem State.runningBoundary_of_enters (goes_on : ¬ q.EndsRun) (at_last : q.k = q.current.dwell) :
    s.runningBoundary = ((s.withRun q.counted s.notices).enterStep q.following).testLead := by
  obtain ⟨unbroken, more⟩ := not_or.mp goes_on
  rw [s.runningBoundary_eq advanced, if_neg unbroken, if_pos at_last, BackoffSequencer.counted,
    BackoffSequencer.following]
  by_cases at_stop : q.step = q.run.stop
  · rw [if_pos at_stop, if_pos at_stop, if_pos at_stop, if_pos (Nat.pos_of_ne_zero fun h => more ⟨at_last, at_stop, h⟩)]
  · rw [if_neg at_stop, if_neg at_stop, if_neg at_stop]

theorem State.runningBoundary_of_stays (goes_on : ¬ q.EndsRun) (before_last : q.k ≠ q.current.dwell) :
    s.runningBoundary = (s.withRun q s.notices).testLead := by
  obtain ⟨unbroken, -⟩ := not_or.mp goes_on
  rw [s.runningBoundary_eq advanced, if_neg unbroken, if_neg before_last]

end

end Sys2Proof.Machine
end

section
/-! Proofs about chapter 8: the sequencer law (R117, R120, R124, R125, R134). -/

namespace Sys2Proof.Machine

/-- The part of the sequencer law that is about the sequencer's own figures. -/
def BackoffSequencer.Lawful (q : BackoffSequencer) : Prop :=
  q.b ≤ 127 ∧ q.b0 ≤ 127 ∧ (q.state = .idle ∨ q.state = .starting → q.b = 0) ∧ q.frame = q.frameDue ∧
    (q.InRun → q.run.covers q.step = true) ∧ (q.Stepping → q.k < q.current.dwell) ∧ LawfulProgram q.program

/-- The sequencer law but for the retained program. -/
def State.RunLaw (s : State) : Prop :=
  s.sequencer.Lawful ∧ (s.isLoading = true → s.sequencer.state = .idle)

theorem State.sequencerLaw_iff (s : State) :
    s.SequencerLaw ↔ s.RunLaw ∧ LawfulProgram s.retainedContents.program := by
  unfold State.SequencerLaw State.RunLaw BackoffSequencer.Lawful
  tauto

/-! ### Figures -/

theorem tdiv_nonpos_of_nonpos {a b : Int} (ha : a ≤ 0) (hb : 0 ≤ b) : Int.tdiv a b ≤ 0 := by
  have negated := Int.tdiv_nonneg (neg_nonneg.mpr ha) hb
  rw [Int.neg_tdiv] at negated
  omega

/-- A slope stays between where it began and its target. -/
theorem slopeBackoff_le {b0 target k dwell : Nat} (begin_le : b0 ≤ 127) (target_le : target ≤ 127) (within : k ≤ dwell) :
    slopeBackoff b0 target k dwell ≤ 127 := by
  have up : ((target : Int) - b0) * k ≤ (127 - b0) * dwell := by
    have h1 : ((target : Int) - b0) * k ≤ (127 - b0) * k := by
      refine mul_le_mul_of_nonneg_right ?_ (by omega)
      omega
    have h2 : (127 - (b0 : Int)) * k ≤ (127 - b0) * dwell := by
      refine mul_le_mul_of_nonneg_left ?_ (by omega)
      omega
    exact h1.trans h2
  have bound : Int.tdiv (((target : Int) - b0) * k) dwell ≤ 127 - b0 := by
    obtain rfl | positive := Nat.eq_zero_or_pos dwell
    · simp
      omega
    · have room : (0 : Int) ≤ 127 - b0 := by omega
      rcases le_total 0 (((target : Int) - b0) * k) with rising | falling
      · rw [Int.tdiv_eq_ediv_of_nonneg rising]
        exact Int.ediv_le_of_le_mul (by omega) up
      · exact (tdiv_nonpos_of_nonpos falling (by omega)).trans room
  rw [slopeBackoff]
  omega

theorem moveToward_le {b target : Nat} (increment : Nat) (b_le : b ≤ 127) (target_le : target ≤ 127) :
    moveToward b target increment ≤ 127 := by
  rw [moveToward]
  split_ifs <;> omega

theorem RunParams.covers_start (r : RunParams) : r.covers r.start = true := by
  simp [RunParams.covers]

theorem RunParams.covers_next {r : RunParams} {i : Fin 24} (covered : r.covers i = true) (not_last : i ≠ r.stop) :
    r.covers (i + 1) = true := by
  rw [Ne, Fin.ext_iff] at not_last
  simp only [RunParams.covers, Fin.sub_def, Fin.add_def, decide_eq_true_eq] at covered ⊢
  have := r.start.isLt
  have := r.stop.isLt
  have := i.isLt
  simp only [Fin.val_one] at *
  omega

/-! ### What the sequencer goes to -/

theorem BackoffSequencer.begun_lawful {q : BackoffSequencer} (b_le : q.b ≤ 127) (program : LawfulProgram q.program)
    (r : RunParams) : (q.begun r).Lawful := by
  obtain ⟨target, dwell⟩ := program r.start
  refine ⟨?_, b_le, ?_, (BackoffSequencer.frameDue_of_running (q := q.begun r) rfl).symm, fun _ => r.covers_start, fun _ => dwell,
    program⟩
  · simp only [BackoffSequencer.begun]
    split_ifs
    · exact target
    · exact b_le
  · rintro (idle | starting)
    · cases idle
    · cases starting

theorem BackoffSequencer.entered_lawful {q : BackoffSequencer} (running : q.state = .running) (b_le : q.b ≤ 127)
    (program : LawfulProgram q.program) {i : Fin 24} (covered : q.run.covers i = true) : (q.entered i).Lawful := by
  obtain ⟨target, dwell⟩ := program i
  have state : (q.entered i).state = .running := running
  refine ⟨?_, b_le, ?_, (BackoffSequencer.frameDue_of_running state).symm, fun _ => covered, fun _ => dwell, program⟩
  · simp only [BackoffSequencer.entered, BackoffSequencer.withFrame, BackoffSequencer.enter]
    split_ifs
    · exact target
    · exact b_le
  · rw [state]
    rintro (idle | starting)
    · cases idle
    · cases starting

theorem BackoffSequencer.idled_lawful {q : BackoffSequencer} (b0_le : q.b0 ≤ 127) (program : LawfulProgram q.program) :
    (q.idled.withFrame false).Lawful := by
  have state : (q.idled.withFrame false).state = .idle := rfl
  refine ⟨Nat.zero_le _, b0_le, fun _ => rfl, ?_, ?_, ?_, program⟩
  · rw [BackoffSequencer.frameDue_of_still (by simp [state]) (by simp [state])]
    rfl
  · simp [BackoffSequencer.InRun, state]
  · simp [BackoffSequencer.Stepping, state]

theorem BackoffSequencer.toHolding_lawful {q : BackoffSequencer} (b_le : q.b ≤ 127) (b0_le : q.b0 ≤ 127)
    (program : LawfulProgram q.program) (covered : q.run.covers q.step = true) :
    (q.toHolding.withFrame false).Lawful := by
  have state : (q.toHolding.withFrame false).state = .holding := rfl
  refine ⟨b_le, b0_le, ?_, ?_, fun _ => covered, ?_, program⟩
  · simp [state]
  · rw [BackoffSequencer.frameDue_of_still (by simp [state]) (by simp [state])]
    rfl
  · simp [BackoffSequencer.Stepping, state]

section
variable {q : BackoffSequencer} (law : q.Lawful)
include law

theorem BackoffSequencer.Lawful.takeStart (r : RunParams) : (q.takeStart r).Lawful := by
  obtain ⟨b_le, b0_le, zero, frame, covered, within, program⟩ := law
  rw [BackoffSequencer.takeStart]
  split
  next idle =>
    rw [BackoffSequencer.frameDue_of_still (by simp [idle]) (by simp [idle])] at frame
    refine ⟨b_le, b0_le, fun _ => zero (.inl idle), ?_, ?_, ?_, program⟩
    · rw [BackoffSequencer.frameDue_of_still (by simp) (by simp)]
      exact frame
    · simp [BackoffSequencer.InRun]
    · simp [BackoffSequencer.Stepping]
  next starting =>
    refine ⟨b_le, b0_le, zero, frame, ?_, ?_, program⟩
    · simp [BackoffSequencer.InRun, starting]
    · simp [BackoffSequencer.Stepping, starting]
  next => exact ⟨b_le, b0_le, zero, frame, covered, within, program⟩
  next => exact ⟨b_le, b0_le, zero, frame, covered, within, program⟩
  next => exact ⟨b_le, b0_le, zero, frame, covered, within, program⟩

/-- An advance keeps B in its range and does not pass the step's dwell. -/
theorem BackoffSequencer.Lawful.advanced (running : q.state = .running) :
    q.advanced.b ≤ 127 ∧ q.advanced.k ≤ q.current.dwell := by
  obtain ⟨b_le, b0_le, -, -, -, within, program⟩ := law
  have in_step : q.k + 1 ≤ q.current.dwell := within (.inl running)
  obtain ⟨target, -⟩ := program q.step
  refine ⟨?_, ?_⟩
  · simp only [BackoffSequencer.advanced, BackoffSequencer.ramped]
    split
    next => exact target
    next => exact slopeBackoff_le b0_le target in_step
    next => exact moveToward_le _ b_le target
  · simp only [q.advanced_frame]
    exact in_step

end

/-! ### Boundaries -/

theorem State.withRun_goIdle_sequencer (s : State) (q : BackoffSequencer) (queue : List Notice) (mask : BitVec 4)
    (value : Nat) : ((s.withRun q queue).goIdle mask value).sequencer = q.idled.withFrame false := by
  rw [State.withRun_goIdle]
  rfl

theorem State.withRun_beginRun_sequencer (s : State) (q : BackoffSequencer) (queue : List Notice) (r : RunParams) :
    ((s.withRun q queue).beginRun r).sequencer = q.begun r := by
  rw [State.withRun_beginRun]
  rfl

/-- Whatever a run ends in, its figures are lawful. -/
theorem State.withRun_endRun_lawful (s : State) {q : BackoffSequencer} (queue : List Notice) (b_le : q.b ≤ 127)
    (b0_le : q.b0 ≤ 127) (program : LawfulProgram q.program) (covered : q.run.covers q.step = true) :
    (s.withRun q queue).endRun.sequencer.Lawful := by
  cases pending : q.pendingStart with
  | some r =>
    rw [State.withRun_endRun_pending s q queue pending, State.withRun_beginRun_sequencer]
    exact BackoffSequencer.begun_lawful (q := q.withoutPending) b_le program r
  | none =>
    obtain none_set | hold := Nat.eq_zero_or_pos q.settings.holdAfter
    · rw [State.withRun_endRun_complete s q queue pending none_set, State.withRun_goIdle_sequencer]
      exact BackoffSequencer.idled_lawful b0_le program
    · rw [State.withRun_endRun_holding s q queue pending hold]
      exact BackoffSequencer.toHolding_lawful b_le b0_le program covered

theorem State.runningBoundary_lawful {s : State} (law : s.sequencer.Lawful) (running : s.sequencer.state = .running) :
    s.runningBoundary.sequencer.Lawful := by
  obtain ⟨b_le, k_le⟩ := law.advanced running
  obtain ⟨-, b0_le, -, frame, covered, -, program⟩ := law
  obtain ⟨q, advanced⟩ : ∃ q, s.sequencer.advanced = q := ⟨_, rfl⟩
  obtain ⟨program_eq, -, state_eq, run_eq, step_eq, b0_eq, -, -, -, frame_eq, current_eq⟩ := s.sequencer.advanced_frame
  rw [advanced] at program_eq state_eq run_eq step_eq b0_eq frame_eq current_eq b_le k_le
  have covers : q.run.covers q.step = true := by
    rw [run_eq, step_eq]
    exact covered (.inl running)
  rw [← program_eq] at program
  rw [← b0_eq] at b0_le
  rw [← current_eq] at k_le
  rw [running] at state_eq
  by_cases ends : q.EndsRun
  · rw [State.runningBoundary_of_ends advanced ends]
    exact State.withRun_endRun_lawful s (q := q.lastRepeat) _ b_le b0_le program covers
  · by_cases at_last : q.k = q.current.dwell
    · rw [State.runningBoundary_of_enters advanced ends at_last, State.withRun_enterStep_of_running s q.counted _ state_eq,
        State.withRun_testLead]
      refine BackoffSequencer.entered_lawful (q := q.counted) state_eq b_le program ?_
      rw [BackoffSequencer.following]
      split_ifs with at_stop
      · exact q.run.covers_start
      · exact RunParams.covers_next covers at_stop
    · rw [State.runningBoundary_of_stays advanced ends at_last, State.withRun_testLead]
      refine ⟨b_le, b0_le, ?_, ?_, fun _ => covers, fun _ => lt_of_le_of_ne k_le at_last, program⟩
      · simp [state_eq]
      · rw [State.withRun_sequencer, frame_eq, frame, BackoffSequencer.frameDue_of_running running,
          BackoffSequencer.frameDue_of_running state_eq, current_eq]

theorem State.holdingBoundary_lawful {s : State} (law : s.sequencer.Lawful) (holding : s.sequencer.state = .holding) :
    s.holdingBoundary.sequencer.Lawful := by
  obtain ⟨b_le, b0_le, -, frame, covered, -, program⟩ := law
  unfold State.holdingBoundary
  split
  next r _ =>
    have begun : (s.beginPending r).sequencer = s.sequencer.withoutPending.begun r :=
      State.withRun_beginRun_sequencer s s.sequencer.withoutPending s.notices r
    rw [begun]
    exact BackoffSequencer.begun_lawful (q := s.sequencer.withoutPending) b_le program r
  next =>
    dsimp only
    split
    next =>
      refine (State.withRun_goIdle_sequencer s _ s.notices _ 0).symm ▸ ?_
      exact BackoffSequencer.idled_lawful b0_le program
    next =>
      refine ⟨b_le, b0_le, ?_, frame, covered, ?_, program⟩
      · simp [holding]
      · simp [BackoffSequencer.Stepping, holding]

theorem State.periodBoundary_lawful {s : State} (law : s.sequencer.Lawful) : s.periodBoundary.sequencer.Lawful := by
  obtain ⟨b_le, -, -, -, -, -, program⟩ := id law
  unfold State.periodBoundary
  split
  next => exact law
  next => exact law
  next =>
    have begun : (s.beginRun s.sequencer.run).sequencer = s.sequencer.begun s.sequencer.run :=
      State.withRun_beginRun_sequencer s s.sequencer s.notices s.sequencer.run
    rw [begun]
    exact BackoffSequencer.begun_lawful b_le program _
  next running => exact State.runningBoundary_lawful law running
  next holding => exact State.holdingBoundary_lawful law holding

theorem State.RunLaw.of_ready {s : State} (ready : s.loader.load = .ready) (law : s.sequencer.Lawful) : s.RunLaw := by
  refine ⟨law, fun loading => ?_⟩
  rw [s.isLoading_eq_false_iff.mpr ready] at loading
  cases loading

theorem State.RunLaw.periodBoundary {s : State} (law : s.RunLaw) : s.periodBoundary.RunLaw := by
  refine ⟨State.periodBoundary_lawful law.1, fun loading => ?_⟩
  have loader : s.periodBoundary.isLoading = s.isLoading := by simp [State.isLoading]
  have idle : s.sequencer.state = .idle := law.2 (loader ▸ loading)
  rw [State.periodBoundary, idle]
  exact idle

/-! ### Triggers, commands and resets -/

theorem runLaw_keptByAnnouncing : KeptByAnnouncing State.RunLaw where
  elsewhere := by
    intro s t law _ _ sequencer loader
    unfold State.RunLaw State.isLoading
    rw [sequencer, loader]
    exact law
  raiseEvent law _ _ := law
  queueNotice law _ _ _ := law
  presentTrigger := by
    intro s law k
    obtain ⟨passes, passed⟩ | ⟨-, stood⟩ := s.presentTrigger_cases k
    · rw [passed]
      obtain ⟨-, -, ready⟩ := (s.triggerPasses_iff k).mp passes
      exact State.RunLaw.of_ready ready (law.1.takeStart _)
    · rwa [stood]

theorem BackoffSequencer.Lawful.set_step {q : BackoffSequencer} (law : q.Lawful) {i : Fin 24} {p : ProgramStep}
    (free : q.protects i = false) (target : p.target ≤ 127) (dwell : 1 ≤ p.dwell) :
    BackoffSequencer.Lawful { q with program := q.program.set i p } := by
  obtain ⟨b_le, b0_le, zero, frame, covered, within, program⟩ := law
  have written : LawfulProgram (q.program.set i p) := by
    intro j
    rw [getElem_set_fin]
    split
    next => exact ⟨target, dwell⟩
    next => exact program j
  obtain ⟨u, held⟩ : ∃ u : BackoffSequencer, u = { q with program := q.program.set i p } := ⟨_, rfl⟩
  rw [← held]
  have current : q.InRun → u.current = q.current := fun active => by
    have outside : q.step ≠ i := by
      rintro rfl
      have not_idle : q.state ≠ .idle := by
        obtain h | h | h := active <;> simp [h]
      simp [BackoffSequencer.protects, not_idle, covered active] at free
    rw [held, BackoffSequencer.current, getElem_set_fin, if_neg outside]
    rfl
  have due : u.frameDue = q.frameDue := by
    have state : u.state = q.state := by rw [held]
    by_cases running : q.state = .running
    · rw [BackoffSequencer.frameDue_of_running running, BackoffSequencer.frameDue_of_running (state.trans running),
        current (.inl running)]
    · by_cases frozen : q.state = .frozen
      · rw [BackoffSequencer.frameDue_of_frozen frozen, BackoffSequencer.frameDue_of_frozen (state.trans frozen),
          current (.inr (.inl frozen))]
      · rw [BackoffSequencer.frameDue_of_still running frozen,
          BackoffSequencer.frameDue_of_still (state ▸ running) (state ▸ frozen)]
  have stepping : u.Stepping → q.Stepping := by
    rw [held]
    exact id
  have active : q.Stepping → q.InRun := by
    rintro (h | h)
    · exact .inl h
    · exact .inr (.inl h.1)
  refine ⟨held ▸ b_le, held ▸ b0_le, held ▸ zero, ?_, held ▸ covered, fun h => ?_, held ▸ written⟩
  · rw [due, held]
    exact frame
  · rw [current (active (stepping h)), held]
    exact within (stepping h)

theorem writeStepBlock_lawful {s : State} (law : s.sequencer.Lawful) (p : List Byte) :
    (writeStepBlock p s).state.sequencer.Lawful := by
  unfold writeStepBlock
  split
  next => exact law
  next i x parsed =>
    split
    next => exact law
    next free =>
      obtain ⟨-, -, -, -, fields⟩ := parseStep_eq_some_iff.mp parsed
      refine law.set_step (Bool.not_eq_true _ ▸ free) ?_ ?_
      · rw [fields]
        exact Nat.min_le_right _ _
      · rw [fields]
        exact Nat.le_max_right _ _

theorem setSequencerBlock_lawful {s : State} (law : s.sequencer.Lawful) (p : List Byte) :
    (setSequencerBlock p s).state.sequencer.Lawful := by
  unfold setSequencerBlock
  split
  next => exact law
  next => split <;> exact law

theorem setTriggerBlock_lawful {s : State} (law : s.sequencer.Lawful) (p : List Byte) :
    (setTriggerBlock p s).state.sequencer.Lawful := by
  unfold setTriggerBlock
  split <;> exact law

theorem startScheduleBlock_lawful {s : State} (law : s.sequencer.Lawful) (p : List Byte) :
    (startScheduleBlock p s).state.sequencer.Lawful := by
  unfold startScheduleBlock
  split
  next => exact law
  next => exact law.takeStart _

theorem abortScheduleBlock_lawful {s : State} (law : s.sequencer.Lawful) :
    (abortScheduleBlock s).state.sequencer.Lawful := by
  obtain ⟨b_le, b0_le, zero, frame, covered, within, program⟩ := law
  unfold abortScheduleBlock
  split
  next => exact ⟨b_le, b0_le, zero, frame, covered, within, program⟩
  next =>
    refine (State.withRun_goIdle_sequencer s s.sequencer.withoutPending s.notices _ 1).symm ▸ ?_
    exact BackoffSequencer.idled_lawful (q := s.sequencer.withoutPending) b0_le program

/-- A frozen or a thawed sequencer keeps its figures. -/
theorem BackoffSequencer.Lawful.refrozen {q u : BackoffSequencer} (law : q.Lawful)
    (same : u = { q with state := u.state, remembered := u.remembered }) (not_idle : u.state ≠ .idle)
    (not_starting : u.state ≠ .starting) (active : q.InRun) (stepping : u.Stepping → q.Stepping) :
    (u.withFrame u.frameDue).Lawful := by
  obtain ⟨b_le, b0_le, -, -, covered, within, program⟩ := law
  refine ⟨?_, ?_, ?_, rfl, fun _ => ?_, fun h => ?_, ?_⟩
  · rw [same]; exact b_le
  · rw [same]; exact b0_le
  · rintro (h | h)
    · exact absurd h not_idle
    · exact absurd h not_starting
  · rw [same]; exact covered active
  · have h := within (stepping h)
    rw [same]
    exact h
  · rw [same]; exact program

theorem freezeBlock_lawful {s : State} (law : s.sequencer.Lawful) : (freezeBlock s).state.sequencer.Lawful := by
  unfold freezeBlock
  split
  next running =>
    simp only [State.accept_eq, State.freezeFrom, State.reevaluateFrame_sequencer]
    exact law.refrozen (u := { s.sequencer with state := .frozen, remembered := some .running }) rfl
      (fun h => nomatch h) (fun h => nomatch h) (.inl running) fun _ => .inl running
  next holding =>
    simp only [State.accept_eq, State.freezeFrom, State.reevaluateFrame_sequencer]
    refine law.refrozen (u := { s.sequencer with state := .frozen, remembered := some .holding }) rfl
      (fun h => nomatch h) (fun h => nomatch h) (.inr (.inr holding)) ?_
    rintro (h | ⟨-, h⟩)
    · cases h
    · exact absurd rfl h
  all_goals exact law

theorem thawBlock_lawful {s : State} (law : s.sequencer.Lawful) : (thawBlock s).state.sequencer.Lawful := by
  unfold thawBlock
  split
  next frozen =>
    simp only [State.accept_eq, State.reevaluateFrame_sequencer]
    have active : s.sequencer.InRun := .inr (.inl frozen)
    cases remembered : s.sequencer.remembered with
    | none =>
      refine law.refrozen (u := { s.sequencer with state := .running, remembered := none }) rfl
        (fun h => nomatch h) (fun h => nomatch h) active fun _ => .inr ⟨frozen, by simp [remembered]⟩
    | some was =>
      cases was with
      | running =>
        exact law.refrozen (u := { s.sequencer with state := .running, remembered := some .running }) rfl
          (fun h => nomatch h) (fun h => nomatch h) active fun _ => .inr ⟨frozen, by simp [remembered]⟩
      | holding =>
        refine law.refrozen (u := { s.sequencer with state := .holding, remembered := some .holding }) rfl
          (fun h => nomatch h) (fun h => nomatch h) active ?_
        rintro (h | ⟨h, -⟩) <;> cases h
  next => exact law

/-! ### The law -/

theorem powerOn_sequencer_lawful : BackoffSequencer.powerOn.Lawful :=
  BackoffSequencer.idled_lawful (q := BackoffSequencer.powerOn) (Nat.zero_le _) (by unfold LawfulProgram; decide)

theorem readsFrom_program_lawful (k : Contents) (b : List Byte) (read : k.ReadsFrom b) : LawfulProgram k.program := by
  obtain ⟨-, -, ⟨steps, -⟩, -⟩ := read
  intro i
  obtain ⟨-, -, -, -, fields⟩ := steps i
  rw [fields]
  exact ⟨Nat.min_le_right _ _, Nat.le_max_right _ _⟩

theorem builtIn_program_lawful : LawfulProgram Contents.builtIn.program := by
  unfold LawfulProgram
  decide

theorem chosenContents_program_lawful (flash : List Word16) : LawfulProgram (chosenContents flash).program := by
  obtain ⟨b, read⟩ | defaults := chosenContents_cases flash
  · exact readsFrom_program_lawful _ b read
  · exact defaults ▸ builtIn_program_lawful

theorem BackoffSequencer.Lawful.load {q : BackoffSequencer} (law : q.Lawful) (idle : q.state = .idle) {k : Contents}
    (program : LawfulProgram k.program) : (q.load k).Lawful := by
  obtain ⟨b_le, b0_le, zero, frame, -, -, -⟩ := law
  have state : (q.load k).state = .idle := idle
  refine ⟨b_le, b0_le, fun _ => zero (.inl idle), ?_, ?_, ?_, program⟩
  · rw [BackoffSequencer.frameDue_of_still (by simp [idle]) (by simp [idle])] at frame
    rw [BackoffSequencer.frameDue_of_still (by simp [state]) (by simp [state])]
    exact frame
  · simp [BackoffSequencer.InRun, state]
  · simp [BackoffSequencer.Stepping, state]

theorem BackoffSequencer.restore_lawful (q : BackoffSequencer) {k : Contents} (program : LawfulProgram k.program) :
    (q.restore k).Lawful := by
  have state : (q.restore k).state = .idle := rfl
  refine ⟨Nat.zero_le _, Nat.zero_le _, fun _ => rfl, ?_, ?_, ?_, program⟩
  · rw [BackoffSequencer.frameDue_of_still (by simp [state]) (by simp [state])]
    rfl
  · simp [BackoffSequencer.InRun, state]
  · simp [BackoffSequencer.Stepping, state]

theorem State.powerOn_runLaw (s : State) (held : Bool) (timer : Timer) (warn crit : Bool) (address : BitVec 7) :
    (s.powerOn held timer warn crit address).RunLaw :=
  ⟨powerOn_sequencer_lawful, fun _ => rfl⟩

theorem policyCommand_keeps_runLaw {c : Instr} {b : Byte} {n : Nat} {p : List Byte} {s : State}
    (row : policyCommand c = some (b, n, p)) (law : s.RunLaw) (loads : Part.loader ∉ touched c)
    (lawful : (blockOf c s).state.sequencer.Lawful) : ∀ t : State, exec c s = .next t → t.RunLaw := by
  refine policyCommand_keeps row law (fun _ _ _ h => h) fun ready => State.RunLaw.of_ready ?_ lawful
  have loader : (blockOf c s).state.loader = s.loader := blockOf_agreeOff c s .loader loads
  rw [loader, ready]

theorem exec_keeps_runLaw (c : Instr) (s : State) (law : s.RunLaw)
    (retained : LawfulProgram s.retainedContents.program) : ∀ t : State, exec c s = .next t → t.RunLaw := by
  have closed := runLaw_keptByAnnouncing
  cases beyond : actsBeyondAnnouncing c
  case false => exact closed.exec beyond law
  case true =>
    cases c <;> simp [actsBeyondAnnouncing] at beyond
    case powerOn a w k =>
      exact leads_of_next (closed.reformTarget (closed.withSupply (s.powerOn_runLaw _ _ _ _ _) _))
    case rstNAssert => exact leads_of_next (s.powerOn_runLaw _ _ _ _ _)
    case loadCompletion flash =>
      refine leads_of_unlessHeld law fun _ => ?_
      split
      next loading =>
        refine closed.completeLoad (State.RunLaw.of_ready rfl ?_)
        exact law.1.load (law.2 loading) (chosenContents_program_lawful flash)
      next => exact law
    case readNotice =>
      refine leads_of_unlessHeld law fun _ => ?_
      split
      next => exact law
      next => exact law
    case linkReset =>
      refine leads_of_unlessHeld law fun _ => ?_
      have same : s.linkReset.RunLaw := by simpa [State.RunLaw, State.isLoading] using law
      exact closed.answerLink same _ _
    case periodBoundary =>
      refine leads_of_unlessHeld law fun _ => ?_
      split
      next => exact law.periodBoundary
      next => exact law
    case softReset p =>
      refine policyCommand_keeps_runLaw rfl law (by simp [touched]) ?_
      simp only [blockOf, softResetBlock, State.accept_eq]
      have restored : (s.restored s.retainedContents).RunLaw :=
        ⟨BackoffSequencer.restore_lawful _ retained, fun _ => rfl⟩
      exact (closed.softReset restored).1
    case clearEvents p =>
      refine policyCommand_keeps_runLaw rfl law (by simp [touched]) ?_
      simp only [blockOf, clearEventsBlock]
      split <;> exact law.1
    case setAlertMask p =>
      refine policyCommand_keeps_runLaw rfl law (by simp [touched]) ?_
      simp only [blockOf, setAlertMaskBlock]
      split <;> exact law.1
    case writeStep p =>
      exact policyCommand_keeps_runLaw rfl law (by simp [touched]) (writeStepBlock_lawful law.1 p)
    case setSequencer p =>
      exact policyCommand_keeps_runLaw rfl law (by simp [touched]) (setSequencerBlock_lawful law.1 p)
    case setTrigger p =>
      exact policyCommand_keeps_runLaw rfl law (by simp [touched]) (setTriggerBlock_lawful law.1 p)
    case startSchedule p =>
      exact policyCommand_keeps_runLaw rfl law (by simp [touched]) (startScheduleBlock_lawful law.1 p)
    case abortSchedule p =>
      exact policyCommand_keeps_runLaw rfl law (by simp [touched]) (abortScheduleBlock_lawful law.1)
    case freeze p => exact policyCommand_keeps_runLaw rfl law (by simp [touched]) (freezeBlock_lawful law.1)
    case thaw p => exact policyCommand_keeps_runLaw rfl law (by simp [touched]) (thawBlock_lawful law.1)

theorem reset_sequencerLaw : State.reset.SequencerLaw := by
  rw [State.sequencerLaw_iff]
  exact ⟨⟨powerOn_sequencer_lawful, fun _ => rfl⟩, builtIn_program_lawful⟩

theorem exec_keeps_sequencerLaw (c : Instr) (s : State) (law : s.SequencerLaw) (t : State)
    (next : exec c s = .next t) : t.SequencerLaw := by
  rw [State.sequencerLaw_iff] at law ⊢
  obtain ⟨run, retained⟩ := law
  exact ⟨exec_keeps_runLaw c s run retained t next,
    exec_keeps_retained builtIn_program_lawful readsFrom_program_lawful c s retained t next⟩

/-- Settles O56: a boundary that does not enter a step stays within its dwell, and a step in use is not written. -/
theorem stepKeepsSequencerLaw : Obligations.StepKeepsSequencerLaw := by
  unfold Obligations.StepKeepsSequencerLaw
  exact step_keeps_of_exec (fun _ _ law => law) exec_keeps_sequencerLaw

end Sys2Proof.Machine
end

section
/-! Proofs about the machine as a whole: the step, the queue, the values after reset (0.3, R176, R179). -/

namespace Sys2Proof.Machine

/-- Settles O60. -/
theorem resetIsLawful : Obligations.ResetIsLawful :=
  ⟨reset_grantLaw, reset_windowLaw, reset_temperatureLaw, reset_sequencerLaw, reset_contextLaw, reset_supplyLaw,
    List.nodup_nil, reset_matcherLaw, reset_counterLaw⟩

/-- Settles O1, by the two cases of the queue. -/
theorem stepTakesFrontCommand : Obligations.StepTakesFrontCommand := by
  unfold Obligations.StepTakesFrontCommand
  refine ⟨fun c rest s => rfl, fun s empty => ?_⟩
  rw [step, empty]

/-! ### Every command completes -/

/-- No command is refused and none faults, in any state. -/
theorem exec_completes (c : Instr) (s : State) : ∃ t : State, exec c s = .next t := by
  cases c <;> exact ⟨_, rfl⟩

/-- The queue is no part that any command touches. -/
theorem pending_not_mem_touched (c : Instr) : Part.pending ∉ touched c := by
  cases c <;> simp [touched, allParts]

/-- Settles O2: a command changes only the parts it touches, and the queue is none of them. -/
theorem everyCommandCompletes : Obligations.EveryCommandCompletes := by
  unfold Obligations.EveryCommandCompletes
  intro c s
  obtain ⟨t, next⟩ := exec_completes c s
  exact ⟨t, next, exec_untouched next (pending_not_mem_touched c)⟩

/-! ### What the Policy Port answers by itself -/

/-- Settles O3, by the order of the checks of R176. -/
theorem unservedPolicyCommandsChangeNothing : Obligations.UnservedPolicyCommandsChangeNothing := by
  unfold Obligations.UnservedPolicyCommandsChangeNothing
  intro c b n payload s row running
  rw [exec_policyCommand row]
  refine ⟨fun flight loading => ?_, fun flight ready length => ?_, fun other => ?_⟩
  · rw [State.atWriteEnd_taken running flight, State.takeCommand_cases, if_pos (s.isLoading_iff.mpr loading)]
  · have served : ¬ s.isLoading = true := by simp [s.isLoading_eq_false_iff.mpr ready]
    rw [State.atWriteEnd_taken running flight, State.takeCommand_cases, if_neg served, if_pos length]
  · rw [State.atWriteEnd_other other]

/-! ### Events that do not occur -/

/-- Settles O11: each expiry tests its own timer, and each change its own line. -/
theorem stoppedTimersDoNothing : Obligations.StoppedTimersDoNothing := by
  unfold Obligations.StoppedTimersDoNothing
  intro s running
  refine ⟨fun h => ?_, fun h => ?_, fun raw h => ?_, fun h => ?_, fun h => ?_, fun line h => ?_, fun h => ?_,
    fun c tag none_open => ?_, fun flash h => ?_, fun line => ?_⟩
  · simp [exec, execBucketExpiry, State.unlessHeld_running running, h]
  · simp [exec, execModelStep, State.unlessHeld_running running, h]
  · simp [exec, execConversionTimerExpiry, State.unlessHeld_running running, h]
  · simp [exec, execPeriodBoundary, State.unlessHeld_running running, h]
  · simp [exec, execWriteCompletion, State.unlessHeld_running running, h]
  · simp [exec, execDebounceExpiry, State.unlessHeld_running running, h]
  · simp [exec, execRecoveryHoldExpiry, State.unlessHeld_running running, h]
  · have absent : s.grants.chains[c].opened.find? (·.tag == tag) = none := by
      simpa [List.find?_eq_none] using none_open
    simp only [exec, execLapse, State.unlessHeld_running running, State.takeLapse, absent]
  · simp [exec, execLoadCompletion, State.unlessHeld_running running, s.isLoading_eq_false_iff.mpr h]
  · simp [exec, execOvlPinChange, running]

/-! ### The state after reset -/

/-- Settles O8: the reset state is written out in the model, so each value is read off. -/
theorem resetHoldsPowerOnValues : Obligations.ResetHoldsPowerOnValues := by
  unfold Obligations.ResetHoldsPowerOnValues
  decide

end Sys2Proof.Machine
end

section
/-! Proofs about the two ports: what the bytes at them come to, and what they answer by themselves
(R172 to R177). -/

namespace Sys2Proof.Machine

/-! ### The Policy Port -/

theorem mem_policyCommandBytes_of_toNat {b : Byte} (known : b.toNat ∈ policyCommandBytes.map (·.toNat)) :
    b ∈ policyCommandBytes := by
  obtain ⟨x, member, same⟩ := List.mem_map.mp known
  exact BitVec.eq_of_toNat_eq same ▸ member

theorem policyCommandOf_of_unknown {b : Byte} (unknown : b ∉ policyCommandBytes) (p : List Byte) :
    policyCommandOf b p = .badCommand b p := by
  have absent : b.toNat ∉ policyCommandBytes.map (·.toNat) := fun known =>
    unknown (mem_policyCommandBytes_of_toNat known)
  rw [policyCommandOf]
  split
  case h_29 => rfl
  all_goals next known =>
    rw [known] at absent
    exact absurd (by decide) absent

theorem policyCommandOf_of_row {c : Instr} {b : Byte} {n : Nat} {p : List Byte}
    (row : policyCommand c = some (b, n, p)) : policyCommandOf b p = c ∧ b ∈ policyCommandBytes := by
  cases c <;> cases row <;> exact ⟨rfl, by decide⟩

theorem getElem?_map_range {α : Type} {f : Nat → α} {n i : Nat} {x : α}
    (found : ((List.range n).map f)[i]? = some x) : x = f i := by
  obtain ⟨inside, rfl⟩ := List.getElem?_eq_some_iff.mp found
  simp

theorem exec_readStatus {s : State} (running : s.rstHeld = false) (flight : s.policy.inFlight = some 0x60)
    (p : List Byte) : exec (.readStatus p) s =
      .next (if p.length ≠ 0 then s.reply .badLength [] else s.reply .ok s.statusBytes) := by
  rw [exec, execReadStatus, State.atWriteEnd_taken running flight]

/-- What the controller reads at the port's address while the part is not held in reset. -/
theorem State.policyRead_own {s : State} (running : s.rstHeld = false) (n : Nat) :
    s.policyRead s.policy.address n = some ((List.range n).map s.policy.response.byteOut) :=
  if_pos ⟨running, rfl⟩

/-- Settles O4, clause by clause: the port's own commands, the spelling of its writes, its reads. -/
theorem policyPortOwnCommands : Obligations.PolicyPortOwnCommands := by
  unfold Obligations.PolicyPortOwnCommands
  refine ⟨fun s running => ⟨fun b => ?_, fun b p flight => ?_, fun flight => ⟨?_, fun p longer => ?_⟩,
      fun b p idle => ⟨?_, ?_⟩⟩,
    fun c b n p row => policyCommandOf_of_row row,
    fun p => ⟨rfl, fun b unknown => policyCommandOf_of_unknown unknown p⟩,
    fun s => ⟨?_, fun b p => s.withPolicyWrite_own (b :: p), fun a bytes other => s.withPolicyWrite_other other bytes,
      fun a n silent => ?_, fun n running => ⟨_, State.policyRead_own running n, ?_, ?_, ?_, ?_⟩⟩⟩
  · rw [exec, execCommandByteArrival, State.unlessHeld_running running]
    rfl
  · rw [exec, execBadCommand, State.atWriteEnd_taken running flight]
    rfl
  · rw [exec_readStatus running flight]
    rfl
  · rw [exec_readStatus running flight, if_pos (by simpa using longer)]
    rfl
  · rw [exec, execBadCommand, State.atWriteEnd_other (by simp [idle])]
  · rw [exec, execReadStatus, State.atWriteEnd_other (by simp [idle])]
  · exact s.withPolicyWrite_own []
  · refine if_neg fun own => ?_
    rcases silent with held | other
    · simp [held] at own
    · exact other own.2
  · simp
  · exact fun x found => getElem?_map_range (f := s.policy.response.byteOut) found
  · exact fun x found => getElem?_map_range (f := s.policy.response.byteOut) found
  · exact fun i x found => getElem?_map_range found

/-! ### The Burst Link -/

theorem linkFieldCount_eq_some_iff (kind : Byte) (n : Nat) :
    linkFieldCount kind = some n ↔
      (kind, n) ∈ ([(0x01, 12), (0x02, 5), (0x03, 0), (0x04, 0), (0x05, 0)] : List (Byte × Nat)) := by
  simp only [linkFieldCount, List.mem_cons, Prod.mk.injEq, List.not_mem_nil, or_false, ← BitVec.toNat_inj]
  split
  next one => simp [one, eq_comm]
  next two => simp [two, eq_comm]
  next three => simp [three, eq_comm]
  next four => simp [four, eq_comm]
  next five => simp [five, eq_comm]
  next one two three four five =>
    simp only [reduceCtorEq, false_iff]
    rintro (⟨h, _⟩ | ⟨h, _⟩ | ⟨h, _⟩ | ⟨h, _⟩ | ⟨h, _⟩)
    exacts [one h, two h, three h, four h, five h]

theorem linkHeaderGood_iff (kind length : Byte) :
    linkHeaderGood kind length = true ↔
      (kind, length.toNat) ∈ ([(0x01, 12), (0x02, 5), (0x03, 0), (0x04, 0), (0x05, 0)] : List (Byte × Nat)) := by
  rw [← linkFieldCount_eq_some_iff, linkHeaderGood, beq_iff_eq]

/-- A good frame with its whole request part spells the message of its kind, whatever follows. -/
theorem linkFrame_of_fields {kind length : Byte} {fields : List Byte} {c : Instr}
    (good : linkHeaderGood kind length = true) (whole : fields.length = length.toNat)
    (message : linkMessage kind fields = some c) (more : List Byte) :
    linkFrame (kind :: length :: (fields ++ more)) = c := by
  have enough : ¬ (fields ++ more).length < length.toNat := by
    rw [List.length_append]
    omega
  rw [linkFrame, if_pos good, if_neg enough, List.take_left' whole, message, Option.getD_some]

theorem linkFrame_of_bad_header {kind length : Byte} (bad : linkHeaderGood kind length ≠ true) (more : List Byte) :
    linkFrame (kind :: length :: more) = .badFrame kind length := by
  rw [linkFrame, if_neg bad]

theorem requestIncomplete_iff (bytes : List Byte) :
    requestIncomplete bytes = true ↔ bytes.length < 2 ∨
      (bytes.take 2 = [0x01, 12] ∧ bytes.length < 14) ∨ (bytes.take 2 = [0x02, 5] ∧ bytes.length < 7) := by
  match bytes with
  | [] => simp [requestIncomplete]
  | [_] => simp [requestIncomplete]
  | kind :: length :: fields =>
    simp only [requestIncomplete, Bool.and_eq_true, linkHeaderGood_iff, decide_eq_true_eq]
    simp [← BitVec.toNat_inj]
    omega

/-- The header of a response names the load state (R172). -/
theorem State.linkHeader_eq (s : State) (kind : Byte) :
    s.linkHeader kind = [kind, toByte (s.link.epoch.toNat + if s.loader.load = .loading then 16 else 0)] := by
  simp only [State.linkHeader, flagWeight, State.isLoading_iff]

theorem exec_badFrame {s : State} (running : s.rstHeld = false) (kind n : Byte) :
    exec (.badFrame kind n) s = .next (s.answerLink kind (badFrameAnswer kind)) := by
  rw [exec, execBadFrame, State.unlessHeld_running running]

theorem badFrameAnswer_of_other {kind : Byte} (other : kind = 0x05 ∨ kind = 0 ∨ 5 < kind.toNat) :
    badFrameAnswer kind = [0xFF] := by
  rw [badFrameAnswer]
  split
  case h_5 => rfl
  all_goals bv_omega

theorem BackoffSequencer.given_fst (q : BackoffSequencer) :
    q.given.1 = match q.state with
      | .running => q.b
      | .frozen => q.b
      | .holding => q.b
      | .idle => 0
      | .starting => 0 := by
  rw [BackoffSequencer.given]
  cases q.state <;> rfl

/-- Settles O52: the spelling of frames by their headers, then the answers. -/
theorem linkStatusAndBadFrames : Obligations.LinkStatusAndBadFrames := by
  unfold Obligations.LinkStatusAndBadFrames
  refine ⟨fun chain tag preq d b0 b1 b2 b3 b4 b5 b6 b7 more => ?_, fun chain tag pact dact r more => ?_,
    fun more => ⟨?_, ?_, ?_⟩, fun kind n more unknown => ?_, fun bytes short => linkFrame_short short,
    requestIncomplete_iff, fun s bytes => rfl, fun s n => ⟨fun held => if_pos held, fun running => ?_⟩,
    fun s running => ?_⟩
  · exact linkFrame_of_fields (fields := [chain, tag, preq, d, b0, b1, b2, b3, b4, b5, b6, b7]) (by decide) rfl rfl more
  · exact linkFrame_of_fields (fields := [chain, tag, pact, dact, r]) (by decide) rfl rfl more
  · exact linkFrame_of_fields (fields := []) (by decide) rfl rfl more
  · exact linkFrame_of_fields (fields := []) (by decide) rfl rfl more
  · exact linkFrame_of_fields (fields := []) (by decide) rfl rfl more
  · exact linkFrame_of_bad_header (fun good => unknown ((linkHeaderGood_iff kind n).mp good)) more
  · refine ⟨_, if_neg (by simp [running]), by simp, fun i x found => ?_⟩
    exact getElem?_map_range (f := s.link.byteOut) found
  · simp only [← s.linkHeader_eq]
    refine ⟨?_, fun n other => exec_badFrame running 0x01 n, fun n other => exec_badFrame running 0x02 n,
      fun kind n known other => ?_, fun kind n known => ?_, fun bytes short => ?_⟩
    · rw [exec, execReadLinkStatus, State.unlessHeld_running running, State.linkStatus, BackoffSequencer.given_fst]
      rfl
    · rw [exec_badFrame running]
      rcases known with rfl | rfl <;> rfl
    · have other : kind = 0x05 ∨ kind = 0 ∨ 5 < kind.toNat := known.imp_left And.left
      rw [exec_badFrame running, badFrameAnswer_of_other other]
      rfl
    · rw [exec, execShortFrame, State.unlessHeld_running running]
      rfl

end Sys2Proof.Machine
end

section
/-! Proofs about the Policy Port's commands that write one block's fields: the context (R154 to R160), the events
(R164 to R167) and the chain report (R36, R37). -/

namespace Sys2Proof.Machine

/-! ### What a served command comes to -/

/-- A served command of the right length is answered with what its block gives back. -/
theorem exec_of_answer {c : Instr} {b : Byte} {n : Nat} {p : List Byte} {s t : State} {status : Status}
    {data : List Byte} (row : policyCommand c = some (b, n, p)) (serving : s.Serving b) (length : p.length = n)
    (answer : blockOf c s = ⟨status, data, t⟩) : exec c s = .next (t.reply status data) := by
  rw [exec_of_serving row serving length, answer]

theorem eq_none_of_not_some {α : Type} {o : Option α} (not_some : ∀ x, o ≠ some x) : o = none :=
  Option.eq_none_iff_forall_ne_some.mpr not_some

/-! ### Contexts -/

/-- Settles O47, by what `parseSetChain` accepts. -/
theorem setChainWritesFourFields : Obligations.SetChainWritesFourFields := by
  unfold Obligations.SetChainWritesFourFields
  intro chain enable ceiling minimum w4 w3 w2 w1 w0 s serving p
  refine ⟨fun c index low ordered => ?_, fun outside => ?_⟩
  · have accepted := (parseSetChain_eq_some_iff (p := p)).mpr ⟨index, low, ordered, rfl⟩
    rw [fieldAt_five] at accepted
    refine exec_of_answer rfl serving rfl ?_
    rw [blockOf, setChainBlock, accepted]
    rfl
  · have refused : parseSetChain p = none := by
      refine eq_none_of_not_some fun x accepted => ?_
      obtain ⟨index, low, ordered, -⟩ := parseSetChain_eq_some_iff.mp accepted
      have below := x.1.isLt
      simp only [p, byteAt, List.getD_cons_zero, List.getD_cons_succ] at index low ordered
      omega
    refine exec_of_answer rfl serving rfl ?_
    rw [blockOf, setChainBlock, refused, State.refuse_eq]

theorem parseLifetime_eq (v : Nat) : parseLifetime v = if v = 0 then 1 else if 32 < v then 32 else v := by
  rw [parseLifetime]
  split_ifs <;> omega

/-- Settles O48, field by field; while LOADING no block is asked. -/
theorem contextFieldsAreWritten : Obligations.ContextFieldsAreWritten := by
  unfold Obligations.ContextFieldsAreWritten
  refine ⟨fun x2 x1 x0 s serving => ?_, fun x s serving => ?_, fun x s serving low => ?_, fun x s serving high => ?_,
    fun x2 x1 x0 s running loading => ⟨fun flight => ?_, fun flight => ?_⟩⟩
  · refine exec_of_answer rfl serving rfl ?_
    rw [blockOf, setPoolLimitBlock, State.accept_eq, fieldAt_three]
    rfl
  · refine exec_of_answer rfl serving rfl ?_
    rw [blockOf, setLifetimeBlock, State.accept_eq, parseLifetime_eq]
    rfl
  · refine exec_of_answer rfl serving rfl ?_
    have accepted : parseTriggerEnable (byteAt [x] 0) = some (BitVec.ofNat 3 x.toNat) := if_pos low
    rw [blockOf, setTriggerEnableBlock, accepted]
    rfl
  · refine exec_of_answer rfl serving rfl ?_
    have refused : parseTriggerEnable (byteAt [x] 0) = none := if_neg (by simpa [byteAt] using high)
    rw [blockOf, setTriggerEnableBlock, refused]
    rfl
  · exact (unservedPolicyCommandsChangeNothing _ _ _ _ s rfl running).1 flight loading
  · exact (unservedPolicyCommandsChangeNothing _ _ _ _ s rfl running).1 flight loading

/-! ### The context stack -/

theorem pushContextBlock_of_room {s : State} (room : s.context.stack.length < 4) :
    pushContextBlock s =
      ⟨.ok, [], s.withContext { s.context with stack := s.context.current :: s.context.stack }⟩ := by
  rw [pushContextBlock, if_neg (by omega), State.accept_eq]

theorem exec_pushContext_of_room {s : State} (serving : s.Serving 0x44) (room : s.context.stack.length < 4) :
    exec (.pushContext []) s = .next
      ((s.withContext { s.context with stack := s.context.current :: s.context.stack }).reply .ok []) :=
  exec_of_answer rfl serving rfl (pushContextBlock_of_room room)

theorem exec_popContext_of_cons {s : State} (serving : s.Serving 0x45) {top : Context} {rest : List Context}
    (stack : s.context.stack = top :: rest) :
    exec (.popContext []) s = .next ((s.withContext ⟨top, rest⟩).recomputeLimit.reply .ok []) := by
  refine exec_of_answer rfl serving rfl ?_
  rw [blockOf, popContextBlock, stack]
  exact State.accept_eq _

/-- Settles O49. The round trip: a push puts the current context on top, and the pop that follows takes it back. -/
theorem contextStackIsLastInFirstOut : Obligations.ContextStackIsLastInFirstOut := by
  unfold Obligations.ContextStackIsLastInFirstOut
  intro s
  refine ⟨fun serving room => exec_pushContext_of_room serving room, fun serving full => ?_,
    fun empty => ⟨fun serving => ?_, fun serving => ?_⟩,
    fun top rest stack => ⟨fun serving => exec_popContext_of_cons serving stack, fun serving => ?_⟩,
    fun t u v serving room pushed arrived popped => ?_⟩
  · refine exec_of_answer rfl serving rfl ?_
    rw [blockOf, pushContextBlock, if_pos full, State.refuse_eq]
  · refine exec_of_answer rfl serving rfl ?_
    rw [blockOf, popContextBlock, empty, State.refuse_eq]
  · refine exec_of_answer rfl serving rfl ?_
    rw [blockOf, peekContextBlock, empty, State.refuse_eq]
  · refine exec_of_answer rfl serving rfl ?_
    rw [blockOf, peekContextBlock, stack]
  · rw [exec_pushContext_of_room serving room] at pushed
    cases pushed
    rw [exec, execCommandByteArrival, State.unlessHeld_running (by simpa using serving.1)] at arrived
    cases arrived
    rw [exec_popContext_of_cons (top := s.context.current) (rest := s.context.stack)] at popped
    · cases popped
      simp
    · exact ⟨by simpa using serving.1, by simpa using serving.2.1, by simp⟩
    · simp

/-! ### Events -/

theorem parseEventMask_of_low {hi lo : Byte} (low : hi.toNat * 256 + lo.toNat ≤ 0x1FF) :
    parseEventMask [hi, lo] = some (BitVec.ofNat 9 (hi.toNat * 256 + lo.toNat)) := by
  rw [parseEventMask, fieldAt_two]
  exact if_pos low

theorem parseEventMask_of_high {hi lo : Byte} (high : 0x1FF < hi.toNat * 256 + lo.toNat) :
    parseEventMask [hi, lo] = none := by
  rw [parseEventMask, fieldAt_two]
  exact if_neg (Nat.not_le.mpr high)

theorem getLsbD_ofNat_fin (v : Nat) (i : Fin 9) : (BitVec.ofNat 9 v).getLsbD i.val = v.testBit i.val := by
  rw [BitVec.getLsbD_ofNat, decide_eq_true i.isLt, Bool.true_and]

theorem EventLatch.cleared_records (e : EventLatch) (m : BitVec 9) (i : Fin 9) :
    (e.cleared m).records[i] = if m.getLsbD i.val then ⟨false, 0, 0⟩ else e.records[i] :=
  getElem_ofFn_fin _ i

theorem EventLatch.cleared_latch (e : EventLatch) (m : BitVec 9) (k : TriggerKind) (latched : e.latch = some k) :
    (e.cleared m).latch = if m.getLsbD k.event.index.val then none else some k := by
  simp only [EventLatch.cleared, latched, clearsLatch]

/-- Settles O50: the record an event names, the alert line, then the three commands. -/
theorem eventRecordsAndAlertLine : Obligations.EventRecordsAndAlertLine := by
  unfold Obligations.EventRecordsAndAlertLine
  refine ⟨fun s k m => ⟨?_, fun i other => ?_, rfl, rfl⟩, fun s => ?_, fun s => ⟨fun serving => ?_,
    fun hi lo => ⟨fun serving low => ?_, fun serving low => ?_, fun high => ⟨fun serving => ?_, fun serving => ?_⟩⟩⟩⟩
  · rw [State.raiseEvent_events, getElem_set_fin, if_pos rfl]
    rfl
  · rw [State.raiseEvent_events, getElem_set_fin, if_neg other]
  · simp only [State.alertAsserted, List.any_eq_true, List.mem_finRange, true_and, EventLatch.alerts,
      Bool.and_eq_true]
  · exact exec_of_answer rfl serving rfl rfl
  · refine exec_of_answer rfl serving rfl ?_
    rw [blockOf, setAlertMaskBlock, parseEventMask_of_low low]
    rfl
  · refine ⟨s.withEvents (s.events.cleared (BitVec.ofNat 9 (hi.toNat * 256 + lo.toNat))),
      exec_of_answer rfl serving rfl ?_, fun i named => ?_, fun i other => ?_, rfl, fun k latched => ?_, fun clear => ?_⟩
    · rw [blockOf, clearEventsBlock, parseEventMask_of_low low]
      rfl
    · rw [State.withEvents_events, EventLatch.cleared_records, getLsbD_ofNat_fin, if_pos named]
    · rw [State.withEvents_events, EventLatch.cleared_records, getLsbD_ofNat_fin, if_neg (by simp [other])]
    · rw [State.withEvents_events, EventLatch.cleared_latch _ _ k latched, getLsbD_ofNat_fin]
    · simp [EventLatch.cleared, clear]
  · refine exec_of_answer rfl serving rfl ?_
    rw [blockOf, setAlertMaskBlock, parseEventMask_of_high high, State.refuse_eq]
  · refine exec_of_answer rfl serving rfl ?_
    rw [blockOf, clearEventsBlock, parseEventMask_of_high high, State.refuse_eq]

/-! ### The chain report -/

theorem parseReadChain_eq_some_iff {p : List Byte} {c : Chain} {clear : Bool} :
    parseReadChain p = some (c, clear) ↔ byteAt p 0 = c.val ∧ byteAt p 1 ≤ 1 ∧ clear = (byteAt p 1 == 1) := by
  rw [parseReadChain]
  split
  next outside =>
    rw [indexBelow_eq_none_iff] at outside
    simp only [reduceCtorEq, false_iff]
    omega
  next j index =>
    rw [indexBelow_eq_some_iff] at index
    split
    next low =>
      simp only [Option.some.injEq, Prod.mk.injEq, index, Fin.ext_iff, low, true_and]
      tauto
    next => simp only [reduceCtorEq, false_iff]; tauto

theorem readChainBlock_of_accepted {p : List Byte} {c : Chain} {clear : Bool}
    (accepted : parseReadChain p = some (c, clear)) (s : State) :
    readChainBlock p s = ⟨.ok, s.chainReport c, if clear then s.zeroCounters c else s⟩ := by
  rw [readChainBlock, accepted]

/-- Settles O21, by the two values of the clear flag. -/
theorem readChainReportsAndClears : Obligations.ReadChainReportsAndClears := by
  unfold Obligations.ReadChainReportsAndClears
  intro s chain clear serving
  refine ⟨fun c index => ⟨?_, ?_⟩, fun outside => ?_⟩
  · rintro rfl
    have accepted : parseReadChain [chain, 0] = some (c, false) :=
      parseReadChain_eq_some_iff.mpr ⟨index, Nat.zero_le 1, rfl⟩
    exact exec_of_answer rfl serving rfl (readChainBlock_of_accepted accepted s)
  · rintro rfl
    have accepted : parseReadChain [chain, 1] = some (c, true) :=
      parseReadChain_eq_some_iff.mpr ⟨index, Nat.le_refl 1, rfl⟩
    exact exec_of_answer rfl serving rfl (readChainBlock_of_accepted accepted s)
  · have refused : parseReadChain [chain, clear] = none := by
      refine eq_none_of_not_some fun x accepted => ?_
      obtain ⟨index, low, -⟩ := parseReadChain_eq_some_iff.mp accepted
      have below := x.1.isLt
      simp only [byteAt, List.getD_cons_zero, List.getD_cons_succ] at index low
      omega
    refine exec_of_answer rfl serving rfl ?_
    rw [blockOf, readChainBlock, refused, State.refuse_eq]

end Sys2Proof.Machine
end

section
/-! Proofs about the Policy Port's commands that write tables and settings (R67, R68, R99, R105, R107, R111, R147,
R149), the classification they serve (R109, R110), and the expiries of the bucket and write timers. -/

namespace Sys2Proof.Machine

/-! ### Windows -/

/-- Settles O28: the expiry drops the oldest bucket of each ring; a new shape empties every ring. -/
theorem bucketExpiryAndWindowShape : Obligations.BucketExpiryAndWindowShape := by
  unfold Obligations.BucketExpiryAndWindowShape
  refine ⟨fun s running runs => ?_, fun nb selector s serving => ⟨fun period micros low high selected => ?_, fun outside => ?_⟩⟩
  · rw [exec, execBucketExpiry, State.unlessHeld_running running, if_pos runs]
    rfl
  · have named : (selector.toNat, period) ∈ [(0, BucketPeriod.ms31), (1, .ms62), (2, .ms125), (3, .ms250)] := by
      simp only [List.mem_cons, Prod.mk.injEq, List.not_mem_nil, or_false] at selected ⊢
      tauto
    have length : period.micros = micros := by
      simp only [List.mem_cons, Prod.mk.injEq, List.not_mem_nil, or_false] at selected
      rcases selected with h | h | h | h <;> obtain ⟨-, rfl, rfl⟩ := h <;> rfl
    have accepted : parseWindowShape [nb, selector] = some ⟨nb.toNat, period⟩ :=
      parseWindowShape_eq_some_iff.mpr ⟨rfl, low, high, bucketPeriodOf_eq_some_iff.mpr named⟩
    refine exec_of_answer rfl serving rfl ?_
    rw [blockOf, setWindowShapeBlock, accepted, ← length]
    rfl
  · have refused : parseWindowShape [nb, selector] = none := by
      refine eq_none_of_not_some fun x accepted => ?_
      obtain ⟨-, low, high, named⟩ := parseWindowShape_eq_some_iff.mp accepted
      rw [bucketPeriodOf_eq_some_iff] at named
      simp only [byteAt, List.getD_cons_zero, List.getD_cons_succ, List.mem_cons, Prod.mk.injEq, List.not_mem_nil,
        or_false] at low high named
      omega
    refine exec_of_answer rfl serving rfl ?_
    rw [blockOf, setWindowShapeBlock, refused, State.refuse_eq]

/-! ### Tables and settings -/

/-- Two bytes, most significant first, are the sixteen-bit figure they spell. -/
theorem ofNat_fieldAt_two (hi lo : Byte) : BitVec.ofNat 16 (hi.toNat * 256 + lo.toNat) = hi ++ lo := by
  apply BitVec.eq_of_toNat_eq
  have high := hi.isLt
  have low := lo.isLt
  rw [BitVec.toNat_append, BitVec.toNat_ofNat, ← Nat.shiftLeft_add_eq_or_of_lt low, Nat.shiftLeft_eq]
  omega

theorem toByte_toNat_of_lt {v : Nat} (below : v < 256) : (toByte v).toNat = v := by
  rw [toByte, BitVec.toNat_ofNat]
  omega

theorem parseServiceMap_of_classes (k : Vector (Fin 8) 5) :
    parseServiceMap [toByte k[0].val, toByte k[1].val, toByte k[2].val, toByte k[3].val, toByte k[4].val] = some k := by
  have small : ∀ i : Fin 5, (toByte k[i].val).toNat = k[i].val := fun i =>
    toByte_toNat_of_lt (Nat.lt_trans k[i].isLt (by decide))
  rw [parseServiceMap_eq_some_iff]
  intro i
  fin_cases i
  exacts [small 0, small 1, small 2, small 3, small 4]

/-- Settles O35, table by table, by what each operand form accepts. -/
theorem tablesAndSettingsAreWritten : Obligations.TablesAndSettingsAreWritten := by
  unfold Obligations.TablesAndSettingsAreWritten
  intro s
  refine ⟨fun input g1 g0 o1 o0 b1 b0 serving => ⟨fun i index => ?_, fun outside => ?_⟩,
    fun cls floor flags serving => ⟨fun k index low => ?_, fun outside => ?_⟩, fun k1 k2 k3 k4 k5 serving => ?_,
    fun m1 m2 m3 m4 m5 serving outside => ?_, fun th me hr cap serving => ?_,
    fun shift c2 c1 c0 hold d serving => ?_⟩
  · have accepted := (parseSensorCal_eq_some_iff (p := [input, g1, g0, o1, o0, b1, b0])).mpr ⟨index, rfl⟩
    rw [fieldAt_two, fieldAt_two, signedAt, fieldAt_two] at accepted
    have base : BitVec.ofNat 16 (byteAt [input, g1, g0, o1, o0, b1, b0] 5 * 256 +
        byteAt [input, g1, g0, o1, o0, b1, b0] (5 + 1)) = b1 ++ b0 := ofNat_fieldAt_two b1 b0
    rw [base] at accepted
    refine exec_of_answer rfl serving rfl ?_
    rw [blockOf, setSensorCalBlock, accepted]
    rfl
  · have refused : parseSensorCal [input, g1, g0, o1, o0, b1, b0] = none := by
      refine eq_none_of_not_some fun x accepted => ?_
      have index : input.toNat = x.1.val := (parseSensorCal_eq_some_iff.mp accepted).1
      have below := x.1.isLt
      omega
    refine exec_of_answer rfl serving rfl ?_
    rw [blockOf, setSensorCalBlock, refused, State.refuse_eq]
  · have accepted := (parseClass_eq_some_iff (p := [cls, floor, flags])).mpr ⟨index, low, rfl⟩
    refine exec_of_answer rfl serving rfl ?_
    rw [blockOf, writeClassBlock, accepted]
    rfl
  · have refused : parseClass [cls, floor, flags] = none := by
      refine eq_none_of_not_some fun x accepted => ?_
      obtain ⟨index, low, -⟩ := parseClass_eq_some_iff.mp accepted
      have below := x.1.isLt
      simp only [byteAt, List.getD_cons_zero, List.getD_cons_succ] at index low
      omega
    refine exec_of_answer rfl serving rfl ?_
    rw [blockOf, writeClassBlock, refused, State.refuse_eq]
  · refine exec_of_answer rfl serving rfl ?_
    have accepted : parseServiceMap [toByte k1.val, toByte k2.val, toByte k3.val, toByte k4.val, toByte k5.val] =
        some #v[k1, k2, k3, k4, k5] := parseServiceMap_of_classes #v[k1, k2, k3, k4, k5]
    rw [blockOf, setServiceMapBlock, accepted]
    rfl
  · have refused : parseServiceMap [m1, m2, m3, m4, m5] = none := by
      refine eq_none_of_not_some fun v accepted => ?_
      rw [parseServiceMap_eq_some_iff] at accepted
      have b1 : m1.toNat = v[(0 : Fin 5)].val := accepted 0
      have b2 : m2.toNat = v[(1 : Fin 5)].val := accepted 1
      have b3 : m3.toNat = v[(2 : Fin 5)].val := accepted 2
      have b4 : m4.toNat = v[(3 : Fin 5)].val := accepted 3
      have b5 : m5.toNat = v[(4 : Fin 5)].val := accepted 4
      omega
    refine exec_of_answer rfl serving rfl ?_
    rw [blockOf, setServiceMapBlock, refused, State.refuse_eq]
  · exact exec_of_answer rfl serving rfl rfl
  · refine exec_of_answer rfl serving rfl ?_
    rw [blockOf, setOverloadBlock, parseOverload, fieldAt_three]
    rfl

/-! ### Classification -/

/-- A matcher fits a descriptor as R108 says. -/
theorem Matcher.matchesBurst_iff (m : Matcher) (d : Descriptor) :
    m.matchesBurst d = true ↔
      m.state = .enabled ∧ ∀ n : Fin 8, d[n] &&& m.mask[n] = m.value[n] &&& m.mask[n] := by
  rw [Matcher.matchesBurst, Bool.and_eq_true, beq_iff_eq, decide_eq_true_iff]

theorem serviceKind_eq_some_iff {d : Descriptor} {n : Fin 5} : serviceKind d = some n ↔ d[0].toNat = n.val + 1 := by
  rw [serviceKind, Option.filter_eq_some_iff, indexBelow_eq_some_iff, decide_eq_true_iff]
  omega

theorem serviceKind_eq_none {d : Descriptor} (unknown : d[0] = 0 ∨ 5 < d[0].toNat) : serviceKind d = none := by
  refine eq_none_of_not_some fun n known => ?_
  rw [serviceKind_eq_some_iff] at known
  have below := n.isLt
  rcases unknown with zero | beyond
  · rw [zero] at known
    exact absurd known (Nat.succ_ne_zero _).symm
  · omega

/-- The first matcher that fits gives the class. -/
theorem BurstClassifier.classOf_of_match {b : BurstClassifier} {d : Descriptor} {i : Fin 6}
    (fits : b.matchers[i].matchesBurst d = true) (first : ∀ j : Fin 6, j < i → ¬ b.matchers[j].matchesBurst d = true) :
    b.classOf d = b.matchers[i].cls := by
  have found : b.matchers.toList.find? (·.matchesBurst d) = some b.matchers[i] := by
    refine List.find?_eq_some_iff_getElem.mpr ⟨fits, i.val, by simp, by simp, fun j earlier => ?_⟩
    have absent := first ⟨j, Nat.lt_trans earlier i.isLt⟩ earlier
    simpa using absent
  rw [BurstClassifier.classOf, found]

theorem BurstClassifier.classOf_of_no_match {b : BurstClassifier} {d : Descriptor}
    (none_fits : ∀ i : Fin 6, ¬ b.matchers[i].matchesBurst d = true) :
    b.classOf d = (serviceKind d).elim 7 fun i => b.service[i] := by
  have absent : b.matchers.toList.find? (·.matchesBurst d) = none := by
    refine List.find?_eq_none.mpr fun m member => ?_
    obtain ⟨i, below, rfl⟩ := Vector.mem_iff_getElem.mp (Vector.mem_toList_iff.mp member)
    exact none_fits ⟨i, below⟩
  rw [BurstClassifier.classOf, absent]
  cases serviceKind d <;> rfl

/-- Settles O36: matchers in order, then the service map, then class 7. -/
theorem classificationStages : Obligations.ClassificationStages := by
  unfold Obligations.ClassificationStages
  intro s d
  simp only [← Matcher.matchesBurst_iff]
  refine ⟨fun loading => if_pos (s.isLoading_iff.mpr loading), fun ready => ?_⟩
  have classed : s.classify d = (s.classifier.classOf d, s.classifier.classes[s.classifier.classOf d]) :=
    if_neg (by simp [s.isLoading_eq_false_iff.mpr ready])
  simp only [classed]
  refine ⟨fun i fits first => BurstClassifier.classOf_of_match fits first,
    fun none_fits => ⟨fun n known => ?_, fun unknown => ?_⟩, trivial⟩
  · rw [BurstClassifier.classOf_of_no_match none_fits, serviceKind_eq_some_iff.mpr known, Option.elim_some]
  · rw [BurstClassifier.classOf_of_no_match none_fits, serviceKind_eq_none unknown, Option.elim_none]

/-! ### Matcher writes -/

theorem completeWrite_matchers (b : BurstClassifier) (i : Fin 6) :
    b.completeWrite.matchers[i] = (b.matchers[i]).complete :=
  getElem_ofFn_fin _ i

theorem Matcher.complete_of_pending {m : Matcher} {e : MatcherEntry} (writing : m.state = .writing)
    (pending : m.pendingEntry = some e) : m.complete = e.matcher := by
  rw [Matcher.complete, writing, pending]

theorem Matcher.complete_of_none {m : Matcher} (pending : m.pendingEntry = none) : m.complete = m := by
  rw [Matcher.complete, pending]
  cases m.state <;> rfl

theorem BurstClassifier.completeWrite_idle {b : BurstClassifier} (law : b.Lawful) : b.completeWrite.writing = false := by
  rw [Bool.eq_false_iff]
  intro writing
  obtain ⟨i, state⟩ := b.completeWrite.writing_iff.mp writing
  rw [completeWrite_matchers] at state
  exact ((law.1 i).complete_idle).1 state

/-- Settles O37: RANGE, then BUSY, then the pending entry; and its completion. -/
theorem matcherWritesPassThroughWriting : Obligations.MatcherWritesPassThroughWriting := by
  unfold Obligations.MatcherWritesPassThroughWriting
  constructor
  · intro s index enable cls m0 m1 m2 m3 m4 m5 m6 m7 v0 v1 v2 v3 v4 v5 v6 v7 serving p
    refine ⟨fun i k at_i low at_k => ?_, fun outside => ?_⟩
    · have accepted : parseMatcher p = some (i, ⟨enable.toNat == 1, #v[m0, m1, m2, m3, m4, m5, m6, m7],
          #v[v0, v1, v2, v3, v4, v5, v6, v7], k⟩) :=
        parseMatcher_eq_some_iff.mpr ⟨at_i, at_k, low, rfl, rfl, rfl⟩
      refine ⟨fun idle => exec_of_answer rfl serving rfl ?_, fun busy => exec_of_answer rfl serving rfl ?_⟩
      · rw [blockOf, writeMatcherBlock, accepted]
        dsimp only
        rw [idle]
        rfl
      · rw [blockOf, writeMatcherBlock, accepted]
        dsimp only
        rw [busy]
        rfl
    · have refused : parseMatcher p = none := by
        refine eq_none_of_not_some fun x accepted => ?_
        obtain ⟨at_i, at_k, low, -⟩ := parseMatcher_eq_some_iff.mp accepted
        have below := x.1.isLt
        have small := x.2.cls.isLt
        simp only [p, byteAt, List.getD_cons_zero, List.getD_cons_succ] at at_i at_k low
        omega
      refine exec_of_answer rfl serving rfl ?_
      rw [blockOf, writeMatcherBlock, refused, State.refuse_eq]
  · intro s running runs law
    refine ⟨s.withClassifier s.classifier.completeWrite, ?_, fun i e pending => ?_, fun i none_pending => ?_, ?_, rfl,
      rfl, rfl⟩
    · rw [exec, execWriteCompletion, State.unlessHeld_running running, if_pos runs]
      rfl
    · have writing := ((s.matcherLaw_iff.mp law).1 i).mpr (by rw [pending]; rfl)
      rw [State.withClassifier_classifier, completeWrite_matchers, Matcher.complete_of_pending writing pending]
      rfl
    · rw [State.withClassifier_classifier, completeWrite_matchers, Matcher.complete_of_none none_pending]
    · exact BurstClassifier.completeWrite_idle (s.matcherLaw_iff.mp law)

end Sys2Proof.Machine
end

section
/-! Proofs about the Thermal Estimator and the Sensor Scanner (chapters 5 and 6): what each event makes of the
records, and what a change of the thermal states raises (R85, R86, R166). -/

namespace Sys2Proof.Machine

/-! ### Changes of the thermal records -/

/-- A change of the thermal records moves nothing but them, the Event Latch, the Notice Queue and the sequencer. -/
theorem State.changeThermal_whole (s : State) (after : ThermalEstimator) :
    s.changeThermal after =
      { s with
        thermal := (s.changeThermal after).thermal
        events := (s.changeThermal after).events
        notices := (s.changeThermal after).notices
        sequencer := (s.changeThermal after).sequencer } := by
  have frame := State.changeThermal_frame s after
  generalize s.changeThermal after = t at frame ⊢
  cases t
  simp_all

/-- What is raised depends on the thermal records, the TRIP record, the gate and the sequencer alone. -/
theorem State.TripsRaised.of_same {s u t : State} (raised : u.TripsRaised t) (thermal : u.thermal = s.thermal)
    (record : u.events.records[2] = s.events.records[2]) (latch : u.events.latch = s.events.latch)
    (context : u.context = s.context) (loader : u.loader = s.loader) (sequencer : u.sequencer = s.sequencer) :
    s.TripsRaised t := by
  simpa only [State.TripsRaised, State.tripEntries, thermal, record, latch, context, loader, sequencer] using raised

/-! ### The model step -/

theorem shiftRight_eq_div (x : Int) (n : Nat) : shiftRight x n = x / ((2 ^ n : Nat) : Int) :=
  Int.fdiv_eq_ediv_of_nonneg x (Int.natCast_nonneg _)

theorem exec_modelStep {s : State} (running : s.rstHeld = false) (runs : s.thermal.timer.isSome = true) :
    exec .modelStep s =
      .next ((s.withWindows s.windows.heatTaken).changeThermal (s.thermal.modelStep s.windows)) := by
  rw [exec, execModelStep, State.unlessHeld_running running, if_pos runs]
  rfl

/-- Settles O29, by the whole state a change of the thermal records leaves. -/
theorem modelStepMovesEveryEstimate : Obligations.ModelStepMovesEveryEstimate := by
  unfold Obligations.ModelStepMovesEveryEstimate
  intro s running runs
  have thermal := State.changeThermal_thermal (s.withWindows s.windows.heatTaken) (s.thermal.modelStep s.windows)
  have windows : ((s.withWindows s.windows.heatTaken).changeThermal (s.thermal.modelStep s.windows)).windows =
      s.windows.heatTaken := by simp
  have whole := State.changeThermal_whole (s.withWindows s.windows.heatTaken) (s.thermal.modelStep s.windows)
  refine ⟨_, exec_modelStep running runs, fun c => ⟨?_, ?_⟩, ?_⟩
  · rw [thermal, ThermalEstimator.modelStep, getElem_ofFn_fin, ThermalChain.modelStep, ThermalCoeffs.fall,
      shiftRight_eq_div]
    rfl
  · rw [windows, WindowUnit.heatTaken, getElem_ofFn_fin]
  · refine ⟨by rw [thermal]; rfl, by rw [thermal]; rfl, by rw [thermal]; rfl, by rw [thermal]; rfl,
      by rw [windows]; rfl, by rw [windows]; rfl, by rw [windows]; rfl, ?_⟩
    rw [windows]
    exact whole

/-! ### What the trips raise -/

/-- The TRIP record counts each entry, to at most 255. -/
theorem recordOfTrips_count (l : List Chain) {r : EventRecord} (below : r.count ≤ 255) :
    (recordOfTrips l r).count = min 255 (r.count + l.length) := by
  induction l generalizing r with
  | nil => simp [recordOfTrips, below]
  | cons c l ih =>
    have counted : (if r.count < 255 then r.count + 1 else r.count) ≤ 255 := by
      split <;> omega
    rw [recordOfTrips, List.foldl_cons, ← recordOfTrips, ih counted, List.length_cons]
    dsimp only
    split <;> omega

/-- What the TRIP record holds stays in it. -/
theorem recordOfTrips_keeps (l : List Chain) {r : EventRecord} (raised : r.raised = true) {i : Nat}
    (bit : r.mask.getLsbD i = true) :
    (recordOfTrips l r).raised = true ∧ (recordOfTrips l r).mask.getLsbD i = true := by
  induction l generalizing r with
  | nil => exact ⟨raised, bit⟩
  | cons c l ih => exact ih rfl (by simp [bit])

theorem eventMask_chainBit (c : Chain) : (eventMask (chainBit c)).getLsbD c.val = true := by
  revert c
  decide

/-- Each entry leaves its flag and its bit in the TRIP record. -/
theorem recordOfTrips_of_mem {l : List Chain} {c : Chain} (entered : c ∈ l) (r : EventRecord) :
    (recordOfTrips l r).raised = true ∧ (recordOfTrips l r).mask.getLsbD c.val = true := by
  induction l generalizing r with
  | nil => simp at entered
  | cons d l ih =>
    rcases List.mem_cons.mp entered with rfl | later
    · exact recordOfTrips_keeps l rfl (by rw [BitVec.getLsbD_or, eventMask_chainBit, Bool.or_true])
    · exact ih later _

theorem EventLatch.eq_of_same {e f : EventLatch} (records : ∀ i : Fin 9, e.records[i] = f.records[i])
    (alertMask : e.alertMask = f.alertMask) (latch : e.latch = f.latch) : e = f := by
  obtain ⟨r, a, l⟩ := e
  obtain ⟨r', a', l'⟩ := f
  obtain rfl : r = r' := Vector.ext fun i below => records ⟨i, below⟩
  obtain rfl : a = a' := alertMask
  obtain rfl : l = l' := latch
  rfl

/-- What `State.changeThermal_raises` says of a model step. -/
theorem takeModelStep_raises {s t : State}
    (stepped : t = (s.withWindows s.windows.heatTaken).changeThermal (s.thermal.modelStep s.windows)) :
    s.TripsRaised t ∧ t.notices = s.toldTrips t s.notices ∧
      (∀ i : Fin 9, i ≠ 2 → t.events.records[i] = s.events.records[i]) ∧
      t.events.alertMask = s.events.alertMask := by
  obtain ⟨raised, told, records, mask⟩ :=
    State.changeThermal_raises (s.withWindows s.windows.heatTaken) (s.thermal.modelStep s.windows)
  rw [← stepped] at raised told records mask
  exact ⟨raised.of_same rfl rfl rfl rfl rfl rfl, told, records, mask⟩

/-- Settles O30, by what the changes of a model step raise. -/
theorem tripsAreAnnouncedOnce : Obligations.TripsAreAnnouncedOnce := by
  unfold Obligations.TripsAreAnnouncedOnce
  intro s t running runs below next
  rw [exec_modelStep running runs] at next
  have stepped : t = (s.withWindows s.windows.heatTaken).changeThermal (s.thermal.modelStep s.windows) := by
    cases next
    rfl
  obtain ⟨raised, told, records, mask⟩ := takeModelStep_raises stepped
  obtain ⟨record, passed, stuck⟩ := raised
  intro entered changed tripped
  change t.events.records[(2 : Fin 9)] = recordOfTrips entered s.events.records[(2 : Fin 9)] at record
  have gate : s.triggerPasses .trip = true ↔ s.context.current.triggers.getLsbD 1 = true ∧
      s.events.latch = none ∧ s.loader.load = .ready := s.triggerPasses_iff .trip
  refine ⟨?_, fun c member => ?_, fun none_entered => ?_, fun unchanged => ?_, fun some_changed => ?_,
    fun some_entered passes => passed ⟨some_entered, gate.mp passes⟩, fun blocked => ?_,
    ⟨record, passed, stuck⟩, told, records, mask⟩
  · exact (congrArg EventRecord.count record).trans (recordOfTrips_count entered below)
  · have held := recordOfTrips_of_mem member s.events.records[(2 : Fin 9)]
    rw [← record] at held
    exact held
  · obtain ⟨latch, sequencer⟩ := stuck fun ⟨some_entered, _⟩ => some_entered none_entered
    refine ⟨EventLatch.eq_of_same (fun i => ?_) mask latch, sequencer⟩
    by_cases trip : i = 2
    · subst trip
      rw [record, none_entered]
      rfl
    · exact records i trip
  · exact told.trans (if_pos unchanged)
  · exact told.trans (if_neg some_changed)
  · refine stuck fun ⟨_, passes⟩ => ?_
    rw [gate.mpr passes] at blocked
    exact Bool.noConfusion blocked

/-! ### SET_THERMAL -/

theorem thermalCoeffsOf_payload (chain kh1 kh0 kd g slope kn1 kn0 tr1 tr0 hy1 hy0 fb1 fb0 selector : Byte) :
    thermalCoeffsOf [chain, kh1, kh0, kd, g, slope, kn1, kn0, tr1, tr0, hy1, hy0, fb1, fb0, selector] =
      ⟨kh1.toNat * 256 + kh0.toNat, kd.toNat, min g.toNat 16, clampTemp (kn1 ++ kn0).toInt,
        clampTemp (tr1 ++ tr0).toInt, min (hy1.toNat * 256 + hy0.toNat) 640, slope.toNat⟩ := by
  rw [← ofNat_fieldAt_two kn1 kn0, ← ofNat_fieldAt_two tr1 tr0]
  simp only [thermalCoeffsOf, signedAt, fieldAt_two]
  rfl

/-- Settles O31: the record the parsed payload writes, then what the change raises. -/
theorem setThermalWritesCoefficients : Obligations.SetThermalWritesCoefficients := by
  unfold Obligations.SetThermalWritesCoefficients
  intro chain kh1 kh0 kd g slope kn1 kn0 tr1 tr0 hy1 hy0 fb1 fb0 selector s serving clamp knee trip fallback p k
  have coeffs : thermalCoeffsOf p = k := thermalCoeffsOf_payload _ _ _ _ _ _ _ _ _ _ _ _ _ _ _
  have back : clampTemp (signedAt p 12) = fallback := by
    rw [signedAt, fieldAt_two]
    exact congrArg (fun x : BitVec 16 => clampTemp x.toInt) (ofNat_fieldAt_two fb1 fb0)
  refine ⟨fun c period micros index selected ordered => ?_, fun outside => ?_⟩
  · have named : (selector.toNat, period) ∈ [(0, StepPeriod.ms62), (1, .ms125), (2, .ms250), (3, .ms500)] := by
      simp only [List.mem_cons, Prod.mk.injEq, List.not_mem_nil, or_false] at selected ⊢
      tauto
    have length : period.micros = micros := by
      simp only [List.mem_cons, Prod.mk.injEq, List.not_mem_nil, or_false] at selected
      rcases selected with h | h | h | h <;> obtain ⟨-, rfl, rfl⟩ := h <;> rfl
    have accepted : parseThermal p = some ⟨c, k, fallback, period⟩ :=
      parseThermal_eq_some_iff.mpr
        ⟨index, stepPeriodOf_eq_some_iff.mpr named, coeffs ▸ ordered, coeffs.symm, back.symm⟩
    have answered : exec (.setThermal p) s =
        .next ((s.changeThermal ((s.thermal.setWide fallback period).setCoeffs c k)).reply .ok []) := by
      refine exec_of_answer rfl serving rfl ?_
      rw [blockOf, setThermalBlock, accepted]
      exact State.accept_eq _
    have thermal := State.changeThermal_thermal s ((s.thermal.setWide fallback period).setCoeffs c k)
    have whole := State.changeThermal_whole s ((s.thermal.setWide fallback period).setCoeffs c k)
    have raises := State.changeThermal_raises s ((s.thermal.setWide fallback period).setCoeffs c k)
    have policy : (s.changeThermal ((s.thermal.setWide fallback period).setCoeffs c k)).policy = s.policy := by simp
    refine ⟨_, answered, ?_⟩
    generalize s.changeThermal ((s.thermal.setWide fallback period).setCoeffs c k) = t at thermal whole raises policy
    obtain ⟨raised, told, records, mask⟩ := raises
    rw [← length]
    refine ⟨?_, ?_, ?_, ?_, ?_, ?_, raised, told, records, mask, ?_⟩
    · exact congrArg ThermalEstimator.chains thermal
    · exact congrArg ThermalEstimator.fallback thermal
    · exact congrArg ThermalEstimator.period thermal
    · exact congrArg ThermalEstimator.timer thermal
    · exact congrArg ThermalEstimator.board thermal
    · rw [State.reply_policy, policy]
    · have answer : (t.reply .ok []).policy = (s.reply .ok []).policy := by
        rw [State.reply_policy, State.reply_policy, policy]
      rw [answer]
      exact congrArg (fun u : State => u.reply .ok []) whole
  · have refused : parseThermal p = none := by
      refine eq_none_of_not_some fun x accepted => ?_
      obtain ⟨index, named, ordered, -⟩ := parseThermal_eq_some_iff.mp accepted
      rw [stepPeriodOf_eq_some_iff] at named
      rw [coeffs] at ordered
      have below := x.chain.isLt
      change knee < trip at ordered
      simp only [p, byteAt, List.getD_cons_zero, List.getD_cons_succ, List.mem_cons, Prod.mk.injEq, List.not_mem_nil,
        or_false] at index named
      omega
    refine exec_of_answer rfl serving rfl ?_
    rw [blockOf, setThermalBlock, refused, State.refuse_eq]

end Sys2Proof.Machine
end

section
/-! Proofs about deliveries (5.4, 5.6, 6.6) and the conversion that makes them (6.2 to 6.5). -/

namespace Sys2Proof.Machine

/-! ### The thermal state test (R83) -/

/-- Below the trip the knee decides; at or above the trip a chain is TRIPPED. -/
theorem reevaluated_of_cold {u : ThermalState} (cold : u = .normal ∨ u = .warm) (k : ThermalCoeffs) (x : Int) :
    reevaluated k x u = kneeTripTest k x := by
  rcases cold with rfl | rfl <;> rfl

theorem kneeTripTest_cases {k : ThermalCoeffs} (ordered : k.knee < k.trip) (x : Int) :
    (x < k.knee → kneeTripTest k x = .normal) ∧ (k.knee ≤ x → x < k.trip → kneeTripTest k x = .warm) ∧
      (k.trip ≤ x → kneeTripTest k x = .tripped) := by
  unfold kneeTripTest
  refine ⟨fun below => if_pos below, fun knee trip => ?_, fun trip => ?_⟩
  · rw [if_neg (by omega), if_pos trip]
  · rw [if_neg (by omega), if_neg (by omega)]

theorem reevaluated_tripped_cases (k : ThermalCoeffs) (x : Int) :
    (k.trip - k.hysteresis ≤ x → reevaluated k x .tripped = .tripped) ∧
    (x < k.trip - k.hysteresis → k.knee ≤ x → reevaluated k x .tripped = .warm) ∧
    (x < k.trip - k.hysteresis → x < k.knee → reevaluated k x .tripped = .normal) := by
  unfold reevaluated
  refine ⟨fun hot => if_pos hot, fun cool warm => ?_, fun cool cold => ?_⟩
  · exact (if_neg (by omega)).trans (if_pos warm)
  · exact (if_neg (by omega)).trans (if_neg (by omega))

/-! ### A chain's deliveries (R79 to R82) -/

theorem ThermalEstimator.deliver_chain (x : ThermalEstimator) {c : Chain} {i : Input} (same : i.val = c.val)
    (d : Delivery) :
    x.deliver i d = { x with chains := x.chains.set c (x.chains[c].deliver d x.board.seedPending) } := by
  obtain ⟨c, below⟩ := c
  obtain ⟨i, inside⟩ := i
  obtain rfl : i = c := same
  exact dif_pos below

/-- A blend moves the estimate and its flag alone. -/
theorem ThermalChain.blend_frame (u : ThermalChain) (sample : Int) (pending : Bool) :
    (u.blend sample pending).state = u.state ∧ (u.blend sample pending).validRun = u.validRun ∧
      (u.blend sample pending).coeffs = u.coeffs := by
  cases pending <;> exact ⟨rfl, rfl, rfl⟩

/-- A sample never moves more of the estimate than the blend. -/
theorem ThermalChain.takeSample_estimate (u : ThermalChain) (sample : Int) (pending : Bool) :
    (u.takeSample sample pending).estimate = (u.blend sample pending).estimate ∧
      (u.takeSample sample pending).pinned = (u.blend sample pending).pinned ∧
      (u.takeSample sample pending).coeffs = u.coeffs := by
  have frame := u.blend_frame sample pending
  unfold ThermalChain.takeSample
  dsimp only
  split_ifs <;> exact ⟨rfl, rfl, frame.2.2⟩

theorem ThermalChain.takeSample_of_known {u : ThermalChain} (known : u.state ≠ .unknown) (sample : Int)
    (pending : Bool) :
    u.takeSample sample pending =
      if pending then u.blend sample pending else (u.blend sample pending).reevaluate := by
  unfold ThermalChain.takeSample
  exact if_neg known

theorem ThermalChain.takeSample_of_unknown {u : ThermalChain} (unknown : u.state = .unknown) (sample : Int)
    (pending : Bool) :
    u.takeSample sample pending =
      if 2 ≤ u.validRun + 1 then
        { u.blend sample pending with
          validRun := 0
          state := kneeTripTest (u.blend sample pending).coeffs (u.blend sample pending).estimate }
      else { u.blend sample pending with validRun := u.validRun + 1 } := by
  unfold ThermalChain.takeSample
  exact if_pos unknown

/-- Settles O32: the state test, the chain of the input's number, then the record by its state. -/
theorem chainSamplesBlendAndLeaveUnknown : Obligations.ChainSamplesBlendAndLeaveUnknown := by
  unfold Obligations.ChainSamplesBlendAndLeaveUnknown
  refine ⟨fun k x u ordered cold => ?_, fun k x => ?_, fun x c i d same => x.deliver_chain same d,
    fun u sample flag pending => ?_⟩
  · rw [reevaluated_of_cold cold]
    exact kneeTripTest_cases ordered x
  · obtain ⟨hot, warm, cold⟩ := reevaluated_tripped_cases k x
    exact ⟨hot, warm, cold, rfl⟩
  · obtain ⟨estimate, pinned, coeffs⟩ := u.takeSample_estimate sample pending
    obtain ⟨state, validRun, -⟩ := u.blend_frame sample pending
    intro moved y v
    refine ⟨?_, ?_, fun known idle => ?_, fun known waits => ?_, fun unknown first => ?_, fun unknown later => ?_,
      fun known => if_neg known, fun unknown => if_pos unknown, rfl, coeffs⟩
    · rintro rfl
      exact ⟨estimate, pinned⟩
    · rintro rfl
      exact ⟨estimate, pinned⟩
    · subst idle
      have taken : v = (u.blend sample false).reevaluate := ThermalChain.takeSample_of_known known sample false
      rw [taken]
      exact ⟨rfl, rfl⟩
    · subst waits
      exact ThermalChain.takeSample_of_known known sample true
    · have taken : v = { u.blend sample pending with validRun := u.validRun + 1 } :=
        (ThermalChain.takeSample_of_unknown unknown sample pending).trans (if_neg (by omega))
      rw [taken, first]
      exact ⟨state.trans unknown, rfl⟩
    · have taken := (ThermalChain.takeSample_of_unknown unknown sample pending).trans (if_pos (by omega))
      change v = _ at taken
      rw [taken]
      exact ⟨rfl, by rw [(u.blend_frame sample pending).2.2]; rfl⟩

/-! ### The board's deliveries (R87, R88) -/

theorem ThermalEstimator.deliver_board (t : ThermalEstimator) (d : Delivery) : t.deliver 4 d = t.deliverBoard d :=
  dif_neg (by decide)

/-- Settles O33, by whether the seed is pending. -/
theorem boardSamplesSeedThenFollow : Obligations.BoardSamplesSeedThenFollow := by
  unfold Obligations.BoardSamplesSeedThenFollow
  intro t sample flag
  refine ⟨fun pending => ?_, fun seeded => ?_, t.deliver_board .invalid, t.deliver_board .loss⟩
  · have seeds : t.deliver 4 (.valid sample flag) = t.seed sample flag :=
      (t.deliver_board _).trans (if_pos pending)
    refine ⟨by rw [seeds]; rfl, fun c => ?_⟩
    rw [seeds, ThermalEstimator.seed, ThermalEstimator.reevaluateAll, getElem_ofFn_fin, getElem_ofFn_fin]
    rfl
  · have follows : t.deliver 4 (.valid sample flag) =
        { t with board := ⟨sample, flag, false, t.board.seedPending⟩ } :=
      (t.deliver_board _).trans (if_neg (by simp [seeded]))
    rw [follows, seeded]

/-! ### The conversion (R94 to R97) -/

theorem rawValid_iff (raw : BitVec 12) : rawValid raw = true ↔ raw ≠ 0 ∧ raw ≠ 4095 := by
  rw [rawValid, Bool.and_eq_true, bne_iff_ne, bne_iff_ne]

/-- A valid reading is converted and delivered as it stands. -/
theorem SensorRecord.take_of_valid {raw : BitVec 12} (valid : rawValid raw = true) (r : SensorRecord)
    (k : Calibration) :
    r.take k raw = r.takeValid (k.convert raw) ∧
      r.delivery k raw = .valid (clampTemp (k.convert raw)) (pinnedBy (k.convert raw)) := by
  rw [SensorRecord.take, SensorRecord.delivery, if_pos valid, if_pos valid]
  exact ⟨rfl, rfl⟩

/-- An invalid reading is delivered as a loss when it is the fourth of a run. -/
theorem SensorRecord.take_of_invalid {raw : BitVec 12} (invalid : ¬ rawValid raw = true) (r : SensorRecord)
    (k : Calibration) :
    r.take k raw = r.takeInvalid ∧ r.delivery k raw = if r.invalidRun = 3 then .loss else .invalid := by
  rw [SensorRecord.take, SensorRecord.delivery, if_neg invalid, if_neg invalid]
  exact ⟨rfl, by simp only [SensorRecord.losing, beq_iff_eq]⟩

theorem exec_conversionTimerExpiry {s : State} {v : Conversion} {period : Nat} (running : s.rstHeld = false)
    (timer : s.scanner.timer = some period) (flight : s.scanner.inFlight = some v) (raw : BitVec 12) :
    exec (.conversionTimerExpiry raw) s = .next (s.takeConversion v raw) := by
  rw [exec, execConversionTimerExpiry, State.unlessHeld_running running, timer, flight]

/-- Before the delivery a conversion changes the scanner and, on a loss, the SENSOR_LOST record. -/
theorem State.completeConversion_eq (s : State) (v : Conversion) (raw : BitVec 12) :
    s.completeConversion v raw =
      (s.withScanner
        { s.scanner with
          inputs := s.scanner.inputs.set v.input (s.scanner.inputs[v.input].take v.cal raw) }).withEvents
        (if s.scanner.inputs[v.input].delivery v.cal raw = .loss then
          (s.raiseEvent .sensorLost (inputBit v.input)).events else s.events) := by
  unfold State.completeConversion
  dsimp only
  split_ifs <;> rfl

/-- What a change of the thermal records raises after the Event Latch has taken what came before it, and what the
conversions' own records leave. -/
theorem State.changeThermal_raises_after {s t : State} {x y : SensorScanner} {e : EventLatch} {a : ThermalEstimator}
    (taken : t = (((s.withScanner x).withEvents e).changeThermal a).withScanner y)
    (record : e.records[2] = s.events.records[2]) (latch : e.latch = s.events.latch) :
    s.TripsRaised t ∧ t.notices = s.toldTrips t s.notices ∧
      (∀ i : Fin 9, i ≠ 2 → t.events.records[i] = e.records[i]) ∧ t.events.alertMask = e.alertMask ∧
      t = { s with
        scanner := t.scanner, thermal := t.thermal, events := t.events, notices := t.notices,
        sequencer := t.sequencer } := by
  obtain ⟨raised, told, records, mask⟩ := State.changeThermal_raises ((s.withScanner x).withEvents e) a
  have whole := State.changeThermal_whole ((s.withScanner x).withEvents e) a
  generalize ((s.withScanner x).withEvents e).changeThermal a = u at taken raised told records mask whole
  subst taken
  have raised_here : s.TripsRaised u := raised.of_same rfl record latch rfl rfl rfl
  exact ⟨raised_here, told, records, mask, congrArg (fun u : State => u.withScanner y) whole⟩

/-- The Event Latch once a conversion has completed: SENSOR_LOST is raised by a loss (R97). -/
def State.eventsAfterReading (s : State) (v : Conversion) (raw : BitVec 12) : EventLatch :=
  if s.scanner.inputs[v.input].delivery v.cal raw = .loss then (s.raiseEvent .sensorLost (inputBit v.input)).events
  else s.events

theorem State.eventsAfterReading_frame (s : State) (v : Conversion) (raw : BitVec 12) :
    (∀ i : Fin 9, i ≠ 4 → (s.eventsAfterReading v raw).records[i] = s.events.records[i]) ∧
      (s.eventsAfterReading v raw).alertMask = s.events.alertMask ∧
      (s.eventsAfterReading v raw).latch = s.events.latch := by
  unfold State.eventsAfterReading
  split
  next =>
    refine ⟨fun i other => ?_, rfl, rfl⟩
    rw [State.raiseEvent_events, getElem_set_fin]
    exact if_neg other
  next => exact ⟨fun i _ => rfl, rfl, rfl⟩

theorem State.eventsAfterReading_sensorLost (s : State) (v : Conversion) (raw : BitVec 12) :
    (s.eventsAfterReading v raw).records[(4 : Fin 9)] =
      if s.scanner.inputs[v.input].delivery v.cal raw = .loss then
        s.events.records[(4 : Fin 9)].take (inputBit v.input) else s.events.records[(4 : Fin 9)] := by
  unfold State.eventsAfterReading
  split
  next =>
    rw [State.raiseEvent_events, getElem_set_fin]
    exact if_pos rfl
  next => rfl

theorem State.takeConversion_eq (s : State) (v : Conversion) (raw : BitVec 12) :
    ∃ (x y : SensorScanner) (a : ThermalEstimator), s.takeConversion v raw =
      (((s.withScanner x).withEvents (s.eventsAfterReading v raw)).changeThermal a).withScanner y := by
  unfold State.takeConversion
  rw [State.completeConversion_eq]
  exact ⟨_, _, _, rfl⟩

theorem input_succ_ne : ∀ i : Input, i + 1 ≠ i := by
  decide

/-- Settles O34: the scanner and the estimator by the reading's delivery, then what that raises. -/
theorem conversionJudgesDeliversAndRotates : Obligations.ConversionJudgesDeliversAndRotates := by
  unfold Obligations.ConversionJudgesDeliversAndRotates
  intro s v raw period running timer flight r x y good next
  have converted : v.cal.convert raw = x := by
    rw [Calibration.convert, shiftRight_eq_div]
    rfl
  obtain ⟨scanner, thermal⟩ := s.takeConversion_blocks v raw
  obtain ⟨own, before, a, taken⟩ := s.takeConversion_eq v raw
  obtain ⟨others, alertMask, latch⟩ := s.eventsAfterReading_frame v raw
  have sensorLost := s.eventsAfterReading_sensorLost v raw
  have raises := State.changeThermal_raises_after taken (others 2 (by decide)) latch
  have answered := exec_conversionTimerExpiry running timer flight raw
  have record : (s.takeConversion v raw).scanner.inputs[v.input] = r.take v.cal raw := by
    rw [scanner, SensorScanner.begin, getElem_set_fin, if_pos rfl]
  have other_inputs : ∀ i : Input, i ≠ v.input →
      (s.takeConversion v raw).scanner.inputs[i] = s.scanner.inputs[i] := fun i other => by
    rw [scanner, SensorScanner.begin, getElem_set_fin, if_neg other]
  have rotates : v.input + 1 ≠ v.input := input_succ_ne v.input
  have begins : (s.takeConversion v raw).scanner.inFlight = some ⟨next, s.scanner.inputs[next].cal⟩ := by
    rw [scanner, SensorScanner.begin]
    dsimp only
    rw [getElem_set_fin, if_neg rotates]
  have rotation : (s.takeConversion v raw).scanner.rotation = next := congrArg SensorScanner.rotation scanner
  have restarted : (s.takeConversion v raw).scanner.timer = some 2000 := congrArg SensorScanner.timer scanner
  generalize s.takeConversion v raw = t at *
  obtain ⟨raised, told, records, mask, whole⟩ := raises
  have lost : t.events.records[(4 : Fin 9)] = if r.delivery v.cal raw = .loss then
      s.events.records[(4 : Fin 9)].take (inputBit v.input) else s.events.records[(4 : Fin 9)] :=
    (records 4 (by decide)).trans sensorLost
  refine ⟨t, answered, fun valid => ?_, fun invalid few => ?_, fun invalid fourth => ?_, fun valid => ?_,
    other_inputs, rotation, begins, restarted, raised, told,
    fun i trip lost => (records i trip).trans (others i lost), mask.trans alertMask, whole⟩
  · obtain ⟨judged, delivered⟩ := SensorRecord.take_of_valid ((rawValid_iff raw).mpr valid) r v.cal
    rw [judged, converted] at record
    rw [delivered, converted] at thermal
    exact ⟨record, thermal⟩
  · obtain ⟨judged, delivered⟩ := SensorRecord.take_of_invalid (mt (rawValid_iff raw).mp invalid) r v.cal
    rw [if_neg few] at delivered
    rw [delivered] at thermal lost
    have still : r.losing = false := by simp [SensorRecord.losing, few]
    refine ⟨record.trans ?_, thermal, lost.trans (if_neg (by decide))⟩
    rw [judged, SensorRecord.takeInvalid, still, Bool.or_false]
  · obtain ⟨judged, delivered⟩ := SensorRecord.take_of_invalid (mt (rawValid_iff raw).mp invalid) r v.cal
    rw [if_pos fourth] at delivered
    rw [delivered] at thermal lost
    refine ⟨record.trans ?_, thermal, lost.trans (if_pos rfl)⟩
    rw [judged, SensorRecord.takeInvalid, SensorRecord.losing, fourth]
    simp
  · obtain ⟨-, delivered⟩ := SensorRecord.take_of_valid ((rawValid_iff raw).mpr valid) r v.cal
    rw [delivered] at lost
    exact lost.trans (if_neg (by simp))

end Sys2Proof.Machine
end

section
/-! Proofs about the sequencer's commands (R118 to R121, R128, R132, R133) and the trigger starts (R136, R166). -/

namespace Sys2Proof.Machine

/-! ### Starts -/

theorem BackoffSequencer.takeStart_of_idle {q : BackoffSequencer} (idle : q.state = .idle) (r : RunParams) :
    q.takeStart r = { q with state := .starting, run := r } := by
  rw [BackoffSequencer.takeStart, idle]

theorem BackoffSequencer.takeStart_of_starting {q : BackoffSequencer} (starting : q.state = .starting)
    (r : RunParams) : q.takeStart r = { q with run := r } := by
  rw [BackoffSequencer.takeStart, starting]

theorem BackoffSequencer.takeStart_of_inRun {q : BackoffSequencer} (active : q.InRun) (r : RunParams) :
    q.takeStart r = { q with pendingStart := some r } := by
  rw [BackoffSequencer.takeStart]
  rcases active with state | state | state <;> rw [state]

theorem BackoffSequencer.disposition_of_inRun {q : BackoffSequencer} (active : q.InRun) :
    q.disposition = if q.pendingStart.isSome then .replaced else .queued := by
  rw [BackoffSequencer.disposition]
  rcases active with state | state | state <;> rw [state]

theorem startScheduleBlock_of_accepted {p : List Byte} {r : RunParams} (accepted : parseRun p 0 = some r) (s : State) :
    startScheduleBlock p s =
      ⟨.ok, [toByte s.sequencer.disposition.code], s.withSequencer (s.sequencer.takeStart r)⟩ := by
  rw [startScheduleBlock, accepted]

/-- Settles O38, by the sequencer's state. -/
theorem startScheduleByState : Obligations.StartScheduleByState := by
  unfold Obligations.StartScheduleByState
  intro s a b n serving
  refine ⟨fun i j at_i at_j => ?_, fun outside => ?_⟩
  · intro r q
    have accepted : parseRun [a, b, n] 0 = some r := parseRun_eq_some_iff.mpr ⟨at_i, at_j, rfl⟩
    have answered := exec_of_answer (c := .startSchedule [a, b, n]) rfl serving rfl
      (startScheduleBlock_of_accepted accepted s)
    refine ⟨fun idle => ?_, fun starting => ?_, fun active absent => ?_, fun active present => ?_⟩
    · rw [answered, BackoffSequencer.takeStart_of_idle idle, BackoffSequencer.disposition, idle]
      rfl
    · rw [answered, BackoffSequencer.takeStart_of_starting starting, BackoffSequencer.disposition, starting]
      rfl
    · rw [answered, BackoffSequencer.takeStart_of_inRun active, BackoffSequencer.disposition_of_inRun active, absent]
      rfl
    · rw [answered, BackoffSequencer.takeStart_of_inRun active, BackoffSequencer.disposition_of_inRun active,
        if_pos present]
      rfl
  · have refused : parseRun [a, b, n] 0 = none := by
      refine eq_none_of_not_some fun x accepted => ?_
      obtain ⟨at_i, at_j, -⟩ := parseRun_eq_some_iff.mp accepted
      have low := x.start.isLt
      have below := x.stop.isLt
      simp only [byteAt, List.getD_cons_zero, List.getD_cons_succ] at at_i at_j
      omega
    refine exec_of_answer rfl serving rfl ?_
    rw [blockOf, startScheduleBlock, refused, State.refuse_eq]

/-! ### Triggers -/

theorem State.presentTrigger_of_passes {s : State} {k : TriggerKind} (passes : s.triggerPasses k = true) :
    s.presentTrigger k =
      (s.withEvents { s.events with latch := some k }).withSequencer
        (s.sequencer.takeStart s.sequencer.triggers[k.index]) :=
  if_pos passes

theorem State.presentTrigger_of_blocked {s : State} {k : TriggerKind} (blocked : ¬ s.triggerPasses k = true) :
    s.presentTrigger k = s :=
  if_neg blocked

/-- A set latch lets no trigger pass. -/
theorem State.presentTrigger_of_latched {s : State} (latched : s.events.latch ≠ none) (k : TriggerKind) :
    s.presentTrigger k = s :=
  State.presentTrigger_of_blocked fun passes => latched ((s.triggerPasses_iff k).mp passes).2.1

/-- Settles O44: the gate is `State.triggerPasses`, and a start that passed leaves the latch set. -/
theorem triggerGateLetsOneStartPass : Obligations.TriggerGateLetsOneStartPass := by
  unfold Obligations.TriggerGateLetsOneStartPass
  refine ⟨fun q r => ⟨fun idle => BackoffSequencer.takeStart_of_idle idle r,
    fun starting => BackoffSequencer.takeStart_of_starting starting r,
    fun active => BackoffSequencer.takeStart_of_inRun active r⟩, fun s k => ?_⟩
  intro bit passes
  have gate : s.triggerPasses k = true ↔ passes := by
    rw [State.triggerPasses_iff]
    cases k <;> exact Iff.rfl
  refine ⟨fun open_gate => State.presentTrigger_of_passes (gate.mpr open_gate),
    fun closed => State.presentTrigger_of_blocked (mt gate.mp closed), fun k' open_gate => ?_⟩
  refine State.presentTrigger_of_latched ?_ k'
  rw [State.presentTrigger_of_passes (gate.mpr open_gate)]
  exact Option.some_ne_none k

/-! ### The tables -/

theorem BackoffSequencer.protects_iff (q : BackoffSequencer) (i : Fin 24) :
    q.protects i = true ↔
      (q.state ≠ .idle ∧ q.run.covers i = true) ∨ ∃ x, q.pendingStart = some x ∧ x.covers i = true := by
  simp only [BackoffSequencer.protects, Bool.or_eq_true, Bool.and_eq_true, bne_iff_ne, Option.any_eq_true]

theorem max_one_eq (b : Byte) : max b.toNat 1 = if b = 0 then 1 else b.toNat := by
  split
  next zero => rw [zero]; rfl
  next nonzero =>
    have positive : b.toNat ≠ 0 := fun h => nonzero (BitVec.eq_of_toNat_eq h)
    omega

/-- Settles O43, command by command, by what each operand form accepts. -/
theorem sequencerTablesAreWritten : Obligations.SequencerTablesAreWritten := by
  unfold Obligations.SequencerTablesAreWritten
  intro s q
  refine ⟨fun index target dwell ramp accel leap mask frame serving => ?_,
    fun period b1 b0 hold lead serving => ?_, fun kind a b n serving => ⟨fun k i j at_k at_i at_j => ?_, fun outside => ?_⟩⟩
  · intro p
    refine ⟨fun i r at_i named low_mask low_frame => ?_, fun outside => ?_⟩
    · have accepted : parseStep p = some (i, ⟨min target.toNat 127, max dwell.toNat 1, r, min accel.toNat 15,
          min leap.toNat 15, BitVec.ofNat 4 mask.toNat, frame.toNat == 1⟩) :=
        parseStep_eq_some_iff.mpr ⟨at_i, rampOf_eq_some_iff.mpr named, low_mask, low_frame, rfl⟩
      refine ⟨fun guarded => exec_of_answer rfl serving rfl ?_, fun off_run off_pending => exec_of_answer rfl serving rfl ?_⟩
      · rw [blockOf, writeStepBlock, accepted]
        exact if_pos ((q.protects_iff i).mpr guarded)
      · have free : ¬ q.protects i = true := by
          rw [q.protects_iff]
          rintro (⟨active, covered⟩ | ⟨x, pending, covered⟩)
          · rcases off_run with idle | uncovered
            · exact active idle
            · simp [uncovered] at covered
          · simp [off_pending x pending] at covered
        rw [blockOf, writeStepBlock, accepted, ← max_one_eq]
        exact if_neg free
    · have refused : parseStep p = none := by
        refine eq_none_of_not_some fun x accepted => ?_
        obtain ⟨at_i, named, low_mask, low_frame, -⟩ := parseStep_eq_some_iff.mp accepted
        have below := x.1.isLt
        simp only [rampOf_eq_some_iff, p, byteAt, List.getD_cons_zero, List.getD_cons_succ, List.mem_cons,
          Prod.mk.injEq, List.not_mem_nil, or_false] at at_i named low_mask low_frame
        omega
      refine exec_of_answer rfl serving rfl ?_
      rw [blockOf, writeStepBlock, refused, State.refuse_eq]
  · intro x
    have accepted : period ≠ 0 → parseSequencer [period, b1, b0, hold, lead] = some x := fun nonzero => by
      refine parseSequencer_eq_some_iff.mpr ⟨fun zero => nonzero (BitVec.eq_of_toNat_eq zero), ?_⟩
      rw [fieldAt_two]
      rfl
    refine ⟨fun zero => ?_, fun nonzero active => ?_, fun nonzero idle => ?_⟩ <;> refine exec_of_answer rfl serving rfl ?_
    · have refused : parseSequencer [period, b1, b0, hold, lead] = none := if_pos (by rw [zero]; rfl)
      rw [blockOf, setSequencerBlock, refused, State.refuse_eq]
    · rw [blockOf, setSequencerBlock, accepted nonzero]
      exact if_neg active
    · rw [blockOf, setSequencerBlock, accepted nonzero]
      exact if_pos idle
  · have accepted : parseTrigger [kind, a, b, n] = some (k, ⟨i, j, n.toNat⟩) :=
      parseTrigger_eq_some_iff.mpr ⟨at_k, parseRun_eq_some_iff.mpr ⟨at_i, at_j, rfl⟩⟩
    refine exec_of_answer rfl serving rfl ?_
    rw [blockOf, setTriggerBlock, accepted]
    rfl
  · have refused : parseTrigger [kind, a, b, n] = none := by
      refine eq_none_of_not_some fun x accepted => ?_
      obtain ⟨at_k, run⟩ := parseTrigger_eq_some_iff.mp accepted
      obtain ⟨at_i, at_j, -⟩ := parseRun_eq_some_iff.mp run
      have inside := x.1.isLt
      have low := x.2.start.isLt
      have below := x.2.stop.isLt
      simp only [byteAt, List.getD_cons_zero, List.getD_cons_succ, Nat.reduceAdd] at at_k at_i at_j
      omega
    refine exec_of_answer rfl serving rfl ?_
    rw [blockOf, setTriggerBlock, refused, State.refuse_eq]

end Sys2Proof.Machine
end

section
/-! Proofs about FREEZE, THAW and ABORT_SCHEDULE (R132, R133) and about period boundaries (R122 to R131). -/

namespace Sys2Proof.Machine

/-! ### Freeze, thaw and abort -/

/-- The sequencer changes and the frame is re-evaluated, told with the step before. -/
theorem State.withSequencer_reevaluateFrame (s : State) (q : BackoffSequencer) {due : Bool} (is_due : q.frameDue = due)
    (before : Fin 24) :
    (s.withSequencer q).reevaluateFrame before =
      s.withRun (q.withFrame due)
        (if due && !q.frame then arrive ⟨.frameEnter, q.current.mask, BitVec.ofNat 16 q.step.val⟩ s.notices
        else if !due && q.frame then
          arrive ⟨.frameLeave, q.program[before].mask, BitVec.ofNat 16 before.val⟩ s.notices
        else s.notices) := by
  subst is_due
  rw [State.reevaluateFrame_eq]
  rfl

/-- The sequencer frozen, its frame as the step in force has it (R125, R132). -/
def BackoffSequencer.frozenFrom (q : BackoffSequencer) (was : RememberedState) : BackoffSequencer :=
  { q with state := .frozen, remembered := some was }

/-- The sequencer thawed into a state (R132). -/
def BackoffSequencer.thawedInto (q : BackoffSequencer) (r : RememberedState) : BackoffSequencer :=
  { q with state := if r = .running then .running else .holding }

theorem freezeBlock_of_active {s : State} (active : s.sequencer.state = .running ∨ s.sequencer.state = .holding) :
    freezeBlock s =
      ⟨.ok, [], (s.withSequencer (s.sequencer.frozenFrom
        (if s.sequencer.state = .running then .running else .holding))).reevaluateFrame s.sequencer.step⟩ := by
  rw [freezeBlock]
  rcases active with state | state <;> rw [state] <;> rfl

theorem freezeBlock_of_other {s : State}
    (other : s.sequencer.state = .idle ∨ s.sequencer.state = .starting ∨ s.sequencer.state = .frozen) :
    freezeBlock s = ⟨.wrongState, [], s⟩ := by
  rw [freezeBlock]
  rcases other with state | state | state <;> rw [state] <;> rfl

theorem thawBlock_of_frozen {s : State} {r : RememberedState} (frozen : s.sequencer.state = .frozen)
    (remembered : s.sequencer.remembered = some r) :
    thawBlock s =
      ⟨.ok, [], (s.withSequencer (s.sequencer.thawedInto r)).reevaluateFrame s.sequencer.step⟩ := by
  rw [thawBlock, if_pos frozen, remembered]
  cases r <;> rfl

theorem thawedInto_frameDue (q : BackoffSequencer) (r : RememberedState) :
    (q.thawedInto r).frameDue = (q.current.frame && (r == .running)) := by
  cases r
  · exact (BackoffSequencer.frameDue_of_running rfl).trans (Bool.and_true _).symm
  · have not_running : (q.thawedInto .holding).state ≠ .running := by simp [BackoffSequencer.thawedInto]
    have not_frozen : (q.thawedInto .holding).state ≠ .frozen := by simp [BackoffSequencer.thawedInto]
    exact (BackoffSequencer.frameDue_of_still not_running not_frozen).trans (Bool.and_false _).symm

theorem abortScheduleBlock_of_active {s : State} (active : s.sequencer.state ≠ .idle) :
    abortScheduleBlock s =
      ⟨.ok, [], (s.withRun s.sequencer.withoutPending s.notices).goIdle s.sequencer.abortMask 1⟩ := by
  rw [abortScheduleBlock, if_neg active]
  rfl

/-- Settles O42, by the state and the queue each command leaves. -/
theorem freezeThawAbort : Obligations.FreezeThawAbort := by
  unfold Obligations.FreezeThawAbort
  intro s q p
  refine ⟨fun serving active => ?_, fun serving other => ?_, fun r serving frozen remembered => ?_,
    fun serving other => ?_, fun serving active => ?_, fun serving idle => ?_⟩
  · have due : ∀ was, (q.frozenFrom was).frameDue = p.frame := fun was => BackoffSequencer.frameDue_of_frozen rfl
    refine ⟨_, exec_of_answer rfl serving rfl (freezeBlock_of_active active), ?_⟩
    rw [State.withSequencer_reevaluateFrame _ _ (due _)]
    exact ⟨rfl, rfl, rfl, rfl⟩
  · exact exec_of_answer rfl serving rfl (freezeBlock_of_other other)
  · refine ⟨_, exec_of_answer rfl serving rfl (thawBlock_of_frozen frozen remembered), ?_⟩
    rw [State.withSequencer_reevaluateFrame _ _ (thawedInto_frameDue q r)]
    exact ⟨rfl, rfl, rfl, rfl⟩
  · refine exec_of_answer rfl serving rfl ?_
    rw [blockOf, thawBlock, if_neg other, State.refuse_eq]
  · refine ⟨_, exec_of_answer rfl serving rfl (abortScheduleBlock_of_active active), ?_⟩
    rw [State.withRun_goIdle]
    exact ⟨rfl, rfl, rfl, rfl, rfl⟩
  · refine exec_of_answer rfl serving rfl ?_
    rw [blockOf, abortScheduleBlock, if_pos idle, State.refuse_eq]

/-! ### The beginning of a run -/

theorem exec_periodBoundary {s : State} (running : s.rstHeld = false) (runs : s.sequencer.timer.isSome = true) :
    exec .periodBoundary s = .next s.periodBoundary := by
  rw [exec, execPeriodBoundary, State.unlessHeld_running running, if_pos runs]

theorem State.periodBoundary_of_starting {s : State} (starting : s.sequencer.state = .starting) :
    s.periodBoundary = (s.withRun s.sequencer s.notices).beginRun s.sequencer.run := by
  rw [State.periodBoundary, starting]
  rfl

theorem State.periodBoundary_of_running {s : State} (running : s.sequencer.state = .running) :
    s.periodBoundary = s.runningBoundary := by
  rw [State.periodBoundary, running]

theorem State.periodBoundary_of_holding {s : State} (holding : s.sequencer.state = .holding) :
    s.periodBoundary = s.holdingBoundary := by
  rw [State.periodBoundary, holding]

/-- Settles O39: nothing in IDLE and FROZEN; from STARTING the frame comes on after SCHEDULE_START. -/
theorem boundaryBeginsTheRun : Obligations.BoundaryBeginsTheRun := by
  unfold Obligations.BoundaryBeginsTheRun
  intro s running runs
  refine ⟨fun still => ?_, fun starting off => ?_⟩
  · rw [exec_periodBoundary running runs, State.periodBoundary]
    rcases still with state | state <;> rw [state]
  · have not_running : s.sequencer.state ≠ .running := by simp [starting]
    have not_frozen : s.sequencer.state ≠ .frozen := by simp [starting]
    rw [exec_periodBoundary running runs, State.periodBoundary_of_starting starting,
      State.withRun_beginRun_of_still s s.sequencer s.notices not_running not_frozen off]
    rfl

/-! ### The running boundary -/

/-- B once the step's ramp has moved it (R124). -/
def BackoffSequencer.movedBackoff (q : BackoffSequencer) : Nat :=
  match q.current.ramp with
  | .hold => q.current.target
  | .slope => slopeBackoff q.b0 q.current.target (q.k + 1) q.current.dwell
  | .accel => moveToward q.b q.current.target q.increment

/-- The increment once the step's ramp has moved B (R124). -/
def BackoffSequencer.movedIncrement (q : BackoffSequencer) : Nat :=
  if q.current.ramp = .accel then min (q.increment + q.current.leap) 127 else q.increment

theorem BackoffSequencer.advanced_eq (q : BackoffSequencer) :
    q.advanced =
      { q with
        k := q.k + 1
        runCount := count16 q.runCount
        b := q.movedBackoff
        increment := q.movedIncrement } := by
  have counted : ({ q with k := q.k + 1, runCount := count16 q.runCount } : BackoffSequencer).current = q.current := rfl
  unfold BackoffSequencer.advanced BackoffSequencer.ramped BackoffSequencer.movedBackoff BackoffSequencer.movedIncrement
  rw [counted]
  cases q.current.ramp <;> rfl

theorem count16_eq_min {n : Nat} (below : n ≤ 65535) : count16 n = min (n + 1) 65535 := by
  rw [count16]
  split <;> omega

/-! ### The remaining figure (R126) -/

theorem dwellsFrom_eq_sum (program : Vector ProgramStep 24) (i : Fin 24) (n : Nat) :
    dwellsFrom program i n = ((List.range n).map fun j => (program[i + Fin.ofNat 24 j]).dwell).sum := by
  induction n generalizing i with
  | zero => rfl
  | succ n ih =>
    have later : ∀ j : Nat, i + 1 + Fin.ofNat 24 j = i + Fin.ofNat 24 (j + 1) := fun j => by
      apply Fin.ext
      simp only [Fin.val_add, Fin.val_ofNat]
      omega
    rw [dwellsFrom, ih, List.range_succ_eq_map, List.map_cons, List.sum_cons, List.map_map]
    simp only [Function.comp_def, later, Nat.succ_eq_add_one]
    congr 3
    exact (add_zero i).symm ▸ rfl

/-- The periods left in the run when no breakpoint comes before its end. -/
def BackoffSequencer.left (q : BackoffSequencer) : Nat :=
  (q.current.dwell - q.k) + dwellsFrom q.program (q.step + 1) (q.run.stop - q.step).val + q.runLength * q.repeatsLeft

theorem BackoffSequencer.remaining_eq (q : BackoffSequencer) :
    q.remaining =
      if q.settings.breakpoint = 0 then q.left else min q.left (q.settings.breakpoint - q.runCount) := rfl

/-- One period fewer is left in the run and before the breakpoint. -/
theorem BackoffSequencer.remaining_lowered {q u : BackoffSequencer} (settings : u.settings = q.settings)
    (left : u.left + 1 = q.left) (count : u.runCount = min (q.runCount + 1) 65535)
    (unbroken : q.settings.breakpoint = 0 ∨ q.runCount < min q.settings.breakpoint 65535) :
    u.remaining + 1 = q.remaining := by
  rw [BackoffSequencer.remaining_eq, BackoffSequencer.remaining_eq, settings]
  split_ifs <;> omega

theorem fin_sub_succ {a b : Fin 24} (other : b ≠ a) : (a - b).val = (a - (b + 1)).val + 1 := by
  revert a b
  decide

/-- At the end of a step the steps after it are left, or the whole run once more. -/
theorem BackoffSequencer.left_of_last {q : BackoffSequencer} (last : q.k + 1 = q.current.dwell)
    (goes_on : q.step ≠ q.run.stop ∨ 0 < q.repeatsLeft) {u : BackoffSequencer} (program : u.program = q.program)
    (run : u.run = q.run) (step : u.step = q.following) (k : u.k = 0)
    (repeats : u.repeatsLeft = if q.step = q.run.stop then q.repeatsLeft - 1 else q.repeatsLeft) :
    u.left + 1 = q.left := by
  have length : u.runLength = q.runLength := by
    rw [BackoffSequencer.runLength, BackoffSequencer.runLength, program, run]
  have rest : q.current.dwell - q.k = 1 := by omega
  have current : u.current = q.program[q.following] := by
    simp only [BackoffSequencer.current, program, step]
  have dwell : u.current.dwell - u.k + dwellsFrom q.program (q.following + 1) (q.run.stop - q.following).val =
      dwellsFrom q.program q.following ((q.run.stop - q.following).val + 1) := by
    rw [current, k]
    rfl
  rw [BackoffSequencer.left, BackoffSequencer.left, length, repeats, program, run, step, dwell, rest]
  by_cases at_stop : q.step = q.run.stop
  · obtain ⟨n, more⟩ : ∃ n, q.repeatsLeft = n + 1 :=
      Nat.exists_eq_succ_of_ne_zero (by have := goes_on.resolve_left (not_not.mpr at_stop); omega)
    have ended : (q.run.stop - q.step).val = 0 := by rw [at_stop, sub_self]; rfl
    have whole : dwellsFrom q.program q.run.start ((q.run.stop - q.run.start).val + 1) = q.runLength := rfl
    rw [BackoffSequencer.following, if_pos at_stop, if_pos at_stop, whole, ended, more, dwellsFrom, Nat.add_sub_cancel,
      Nat.mul_succ]
    omega
  · rw [BackoffSequencer.following, if_neg at_stop, if_neg at_stop, ← fin_sub_succ at_stop]
    omega

end Sys2Proof.Machine
end

section
/-! Proofs about the running and the holding boundary (R129 to R131), assembled from the whole states of a run's
operations. -/

namespace Sys2Proof.Machine

/-! ### The figures a running boundary advances to -/

theorem BackoffSequencer.endsRun_advanced_iff {q : BackoffSequencer} (below : q.runCount ≤ 65535) :
    q.advanced.EndsRun ↔
      (q.settings.breakpoint ≠ 0 ∧ min (q.runCount + 1) 65535 = q.settings.breakpoint) ∨
        (q.k + 1 = q.current.dwell ∧ q.step = q.run.stop ∧ q.repeatsLeft = 0) := by
  rw [q.advanced_eq, ← count16_eq_min below]
  exact Iff.rfl

theorem BackoffSequencer.goesOn_of_unbroken {q : BackoffSequencer} (below : q.runCount ≤ 65535)
    (unbroken : q.settings.breakpoint = 0 ∨ min (q.runCount + 1) 65535 ≠ q.settings.breakpoint)
    (more : q.k + 1 ≠ q.current.dwell ∨ q.step ≠ q.run.stop ∨ 0 < q.repeatsLeft) : ¬ q.advanced.EndsRun := by
  rw [BackoffSequencer.endsRun_advanced_iff below]
  rintro (⟨nonzero, broken⟩ | ⟨at_last, at_stop, none_left⟩)
  · exact unbroken.elim nonzero fun other => other broken
  · exact more.elim (fun other => other at_last) fun more =>
      more.elim (fun other => other at_stop) fun some_left => by omega

/-- The remaining figure of the advanced sequencer short of the step's last period. -/
theorem BackoffSequencer.remaining_advanced {q : BackoffSequencer} (below : q.runCount ≤ 65535)
    (inside : q.k < q.current.dwell) (unbroken : q.settings.breakpoint = 0 ∨
      q.runCount < min q.settings.breakpoint 65535) : q.advanced.remaining + 1 = q.remaining := by
  obtain ⟨program, settings, -, run, step, -, k, repeats, -, -, current⟩ := q.advanced_frame
  have length : q.advanced.runLength = q.runLength := by
    rw [BackoffSequencer.runLength, BackoffSequencer.runLength, program, run]
  have left : q.advanced.left + 1 = q.left := by
    rw [BackoffSequencer.left, BackoffSequencer.left, length, repeats, program, run, step, k, current]
    omega
  have count : q.advanced.runCount = min (q.runCount + 1) 65535 := by
    rw [← count16_eq_min below, q.advanced_eq]
  exact BackoffSequencer.remaining_lowered settings left count unbroken

/-- What entering a step in RUNNING tells of the frame. -/
theorem BackoffSequencer.enter_frameTold {q : BackoffSequencer} (running : q.state = .running) (i before : Fin 24)
    (queue : List Notice) :
    (q.enter i).frameTold before queue =
      if (q.program[i]).frame && !q.frame then
        arrive ⟨.frameEnter, (q.program[i]).mask, BitVec.ofNat 16 i.val⟩ queue
      else if !(q.program[i]).frame && q.frame then
        arrive ⟨.frameLeave, (q.program[before]).mask, BitVec.ofNat 16 before.val⟩ queue
      else queue := by
  have due : (q.enter i).frameDue = (q.program[i]).frame := BackoffSequencer.frameDue_of_running running
  rw [BackoffSequencer.frameTold, due]
  rfl

/-- Settles O40: the remaining figure, then the two ways a running boundary goes on. -/
theorem runningBoundaryMovesBackoff : Obligations.RunningBoundaryMovesBackoff := by
  unfold Obligations.RunningBoundaryMovesBackoff
  refine ⟨fun q => ?_, fun s running runs state => ?_⟩
  · intro dwells n
    have left : q.left = n := by
      rw [BackoffSequencer.left, BackoffSequencer.runLength, dwellsFrom_eq_sum, dwellsFrom_eq_sum]
      rfl
    rw [q.remaining_eq, left]
  intro q p count b increment below unbroken
  have moved : q.movedBackoff = b := rfl
  have grown : q.movedIncrement = increment := rfl
  have counted : count16 q.runCount = count := count16_eq_min below
  have advanced : q.advanced =
      { q with k := q.k + 1, runCount := count, b := b, increment := increment } := by
    rw [q.advanced_eq, moved, grown, counted]
  refine ⟨fun before_last => ?_, fun at_last more => ?_⟩
  · have goes_on := BackoffSequencer.goesOn_of_unbroken below unbroken (.inl before_last)
    refine ⟨_, exec_periodBoundary running runs, ?_⟩
    rw [State.periodBoundary_of_running state, State.runningBoundary_of_stays (s := s) rfl goes_on ?_,
      State.withRun_testLead]
    · refine ⟨advanced, ?_, fun inside short => BackoffSequencer.remaining_advanced below inside short, rfl⟩
      rw [State.withRun_notices, State.withRun_sequencer, BackoffSequencer.leadTold, q.advanced_eq]
      rfl
    · rw [q.advanced_eq]
      exact before_last
  · intro i n framed
    have goes_on := BackoffSequencer.goesOn_of_unbroken below unbroken (.inr more)
    have last : q.advanced.k = q.advanced.current.dwell := by
      rw [q.advanced_eq]
      exact at_last
    have still_running : q.advanced.counted.state = .running := by
      rw [q.advanced_eq]
      exact state
    have boundary : s.periodBoundary =
        s.withRun (q.advanced.counted.entered q.advanced.following)
          ((q.advanced.counted.entered q.advanced.following).leadTold
            ((q.advanced.counted.enter q.advanced.following).frameTold q.advanced.counted.step s.notices)) := by
      rw [State.periodBoundary_of_running state, State.runningBoundary_of_enters (s := s) rfl goes_on last,
        State.withRun_enterStep_of_running s _ _ still_running, State.withRun_testLead]
    have entered : q.advanced.counted.entered q.advanced.following =
        { q with
          step := i
          k := 0
          runCount := count
          repeatsLeft := if q.step = q.run.stop then q.repeatsLeft - 1 else q.repeatsLeft
          b0 := b
          b := if n.ramp = .hold then n.target else b
          increment := if n.ramp = .accel then n.accel else increment
          frame := n.frame } := by
      rw [advanced]
      rfl
    have told : (q.advanced.counted.enter q.advanced.following).frameTold q.advanced.counted.step s.notices =
        framed := by
      rw [BackoffSequencer.enter_frameTold still_running, advanced]
      rfl
    refine ⟨_, (exec_periodBoundary running runs).trans (congrArg Host.Outcome.next boundary), ?_⟩
    rw [entered, told]
    refine ⟨rfl, rfl, fun short => BackoffSequencer.remaining_lowered rfl ?_ rfl short, rfl⟩
    exact BackoffSequencer.left_of_last at_last more rfl rfl rfl rfl rfl

/-! ### The end of a run -/

/-- From RUNNING the frame is told at the entry, before the SCHEDULE_START that carries the new run. -/
theorem State.withRun_beginRun_framed (s : State) {q : BackoffSequencer} (running : q.state = .running)
    (queue : List Notice) (r : RunParams) :
    (s.withRun q queue).beginRun r =
      s.withRun (q.begun r) ((q.begun r).leadTold (arrive (q.startNotice r)
        (if (q.program[r.start]).frame && !q.frame then
          arrive ⟨.frameEnter, (q.program[r.start]).mask, BitVec.ofNat 16 r.start.val⟩ queue
        else if (q.program[r.start]).frame then queue else q.leaveTold queue))) := by
  have entry : ((q.taken r).enter r.start).frameTold q.step queue = _ :=
    BackoffSequencer.enter_frameTold (q := q.taken r) running r.start q.step queue
  rw [State.withRun_beginRun_of_running s q queue running, entry, BackoffSequencer.leaveTold]
  change s.withRun _ (BackoffSequencer.leadTold _ (arrive _ (if (q.program[r.start]).frame && !q.frame then _
    else if !(q.program[r.start]).frame && q.frame then _ else _))) = _
  cases (q.program[r.start]).frame <;> cases q.frame <;> rfl

/-- A hold ends, or counts one period down (R131). -/
theorem State.holdingBoundary_of_absent {s : State} (absent : s.sequencer.pendingStart = none) :
    s.holdingBoundary =
      let t := s.withRun { s.sequencer with holdCount := s.sequencer.holdCount - 1 } s.notices
      if s.sequencer.holdCount - 1 = 0 then t.goIdle s.sequencer.current.mask 0 else t := by
  rw [State.holdingBoundary, absent]
  rfl

/-- Settles O41: what ends the run, then where it leads. -/
theorem runEndsInHoldingOrIdle : Obligations.RunEndsInHoldingOrIdle := by
  unfold Obligations.RunEndsInHoldingOrIdle
  intro s running runs q p count b increment left idle entered started ending last
  refine ⟨fun state below ends => ?_, fun state => ⟨fun r present off => ?_, fun absent more => ?_,
    fun absent one => ?_⟩⟩
  · have advanced : q.advanced.lastRepeat =
        { q with k := q.k + 1, runCount := count, b := b, increment := increment, repeatsLeft := 0 } := by
      have counted : count16 q.runCount = count := count16_eq_min below
      rw [q.advanced_eq, counted]
      rfl
    have boundary : s.periodBoundary = (s.withRun q.advanced.lastRepeat s.notices).endRun := by
      rw [State.periodBoundary_of_running state]
      exact State.runningBoundary_of_ends rfl ((BackoffSequencer.endsRun_advanced_iff below).mpr ends)
    rw [exec_periodBoundary running runs, boundary, advanced]
    refine ⟨fun r present => ?_, fun absent hold => ?_, fun absent no_hold => ?_⟩
    · refine congrArg Host.Outcome.next ((State.withRun_endRun_pending s _ s.notices (r := r) ?_).trans ?_)
      · exact present
      · exact State.withRun_beginRun_framed s (by exact state) s.notices r
    · exact congrArg Host.Outcome.next (State.withRun_endRun_holding s _ s.notices absent hold)
    · refine congrArg Host.Outcome.next ((State.withRun_endRun_complete s _ s.notices ?_ ?_).trans ?_)
      · exact absent
      · exact no_hold
      · exact State.withRun_goIdle s _ s.notices _ _
  · rw [exec_periodBoundary running runs, State.periodBoundary_of_holding state, State.holdingBoundary, present]
    have begins := State.withRun_beginRun_of_still s q.withoutPending s.notices
      (fun h => nomatch state.symm.trans h) (fun h => nomatch state.symm.trans h) off r
    exact congrArg Host.Outcome.next begins
  · rw [exec_periodBoundary running runs, State.periodBoundary_of_holding state,
      State.holdingBoundary_of_absent absent]
    have still_more : ¬ s.sequencer.holdCount - 1 = 0 := by
      change 1 < s.sequencer.holdCount at more
      omega
    exact congrArg Host.Outcome.next (if_neg still_more)
  · rw [exec_periodBoundary running runs, State.periodBoundary_of_holding state,
      State.holdingBoundary_of_absent absent]
    have over_now : s.sequencer.holdCount - 1 = 0 := congrArg (· - 1) one
    refine congrArg Host.Outcome.next ((if_pos over_now).trans ?_)
    rw [State.withRun_goIdle]
    rfl

end Sys2Proof.Machine
end

section
/-! Proofs about the Supply Pool Monitor and the Mismatch Monitor (chapter 9): lines, levels, the limit, reflect
codes, and what each raises (R141 to R146, R150, R151). -/

namespace Sys2Proof.Machine

/-! ### Lines (R141) -/

/-- Settles O45, by the pin, the taken level and the debounce setting. -/
theorem linesAreDebounced : Obligations.LinesAreDebounced := by
  unfold Obligations.LinesAreDebounced
  intro s line level running m
  have moved : m.pin ≠ level → exec (.ovlPinChange line level) s = .next (s.pinChanged line level) := fun other => by
    rw [exec, execOvlPinChange, if_neg (by simp [running])]
    exact congrArg Host.Outcome.next (if_neg other)
  refine ⟨fun other back => ?_, fun other away slow => ?_, fun other away fast => ?_, fun runs => ?_⟩
  · rw [moved other]
    exact congrArg Host.Outcome.next (if_pos back)
  · rw [moved other]
    exact congrArg Host.Outcome.next ((if_neg away).trans (if_neg slow))
  · rw [moved other]
    refine congrArg Host.Outcome.next ((if_neg away).trans ((if_pos fast).trans ?_))
    cases line <;> rfl
  · rw [exec, execDebounceExpiry, State.unlessHeld_running running]
    exact congrArg Host.Outcome.next (if_pos runs)

/-! ### The gate of the trigger latch -/

/-- What a presented trigger leaves: the latch and the sequencer by the gate. -/
theorem State.presentTrigger_by_gate (s : State) (k : TriggerKind) :
    ((s.context.current.triggers.getLsbD k.index.val = true ∧ s.events.latch = none ∧ s.loader.load = .ready) →
      (s.presentTrigger k).events.latch = some k ∧
        (s.presentTrigger k).sequencer = s.sequencer.takeStart s.sequencer.triggers[k.index]) ∧
    (¬(s.context.current.triggers.getLsbD k.index.val = true ∧ s.events.latch = none ∧ s.loader.load = .ready) →
      (s.presentTrigger k).events.latch = s.events.latch ∧ (s.presentTrigger k).sequencer = s.sequencer) := by
  rw [← s.triggerPasses_iff k]
  refine ⟨fun passes => ?_, fun blocked => ?_⟩
  · rw [State.presentTrigger_of_passes passes]
    exact ⟨rfl, rfl⟩
  · rw [State.presentTrigger_of_blocked blocked]
    exact ⟨rfl, rfl⟩

/-! ### The effective pool limit (R145, R146) -/

/-- The queue once E has become a figure. -/
def State.cutTold (s : State) (e : Nat) : List Notice :=
  if e ≠ s.supply.limit ∧ e < s.grants.poolSum then
    arrive ⟨.poolCut, s.grants.openMask, BitVec.ofNat 16 (e / 1024)⟩ s.notices
  else s.notices

theorem State.recomputeLimit_eq (s : State) {e : Nat}
    (limit : effectiveLimit s.supply.applied s.context.current.poolLimit s.supply.settings = e) :
    s.recomputeLimit = { s with supply := { s.supply with limit := e }, notices := s.cutTold e } := by
  subst limit
  unfold State.recomputeLimit State.cutTold
  dsimp only
  split_ifs <;> rfl

/-- A level is applied without an announcement, and E follows it. -/
theorem State.applyLevel_recomputeLimit (s : State) (level : SupplyLevel) {e : Nat}
    (limit : effectiveLimit level s.context.current.poolLimit s.supply.settings = e) :
    (s.applyLevel level).recomputeLimit =
      { s with
        supply := { s.supply with applied := level, hold := none, limit := e }
        notices := s.cutTold e } :=
  (s.applyLevel level).recomputeLimit_eq limit

/-- A level is applied, announced, and E follows it: what an announcement moves, E does not read. -/
theorem State.announceLevel_recomputeLimit (s : State) (level : SupplyLevel) {e : Nat}
    (limit : effectiveLimit level s.context.current.poolLimit s.supply.settings = e) :
    (((s.applyLevel level).announceLevel level).recomputeLimit).supply =
        { s.supply with applied := level, hold := none, limit := e } ∧
      (((s.applyLevel level).announceLevel level).recomputeLimit).notices = s.cutTold e ∧
      (((s.applyLevel level).announceLevel level).recomputeLimit).events =
        ((s.applyLevel level).announceLevel level).events ∧
      (((s.applyLevel level).announceLevel level).recomputeLimit).sequencer =
        ((s.applyLevel level).announceLevel level).sequencer := by
  have frame := State.announceLevel_frame (s.applyLevel level) level
  generalize (s.applyLevel level).announceLevel level = a at frame ⊢
  obtain ⟨-, -, -, -, grants, -, -, -, -, supply, -, context, notices, -⟩ := frame
  have same : effectiveLimit a.supply.applied a.context.current.poolLimit a.supply.settings = e := by
    rw [supply, context]
    exact limit
  have told : a.cutTold e = s.cutTold e := by
    rw [State.cutTold, supply, grants, notices]
    rfl
  rw [a.recomputeLimit_eq same, supply, told]
  exact ⟨rfl, rfl, rfl, rfl⟩

theorem State.reformTarget_whole (s : State) :
    s.reformTarget = { s with
      supply := s.reformTarget.supply, notices := s.reformTarget.notices, events := s.reformTarget.events,
      sequencer := s.reformTarget.sequencer } := by
  have frame := State.reformTarget_frame s
  generalize s.reformTarget = t at frame ⊢
  cases t
  simp_all

theorem State.reformTarget_of_equal {s : State} (equal : s.supply.target.code = s.supply.applied.code) :
    s.reformTarget = s.withSupply { s.supply with hold := none } :=
  (if_neg (Nat.le_of_eq equal).not_gt).trans (if_pos equal)

theorem State.reformTarget_of_fall {s : State} (fall : s.supply.target.code < s.supply.applied.code) :
    s.reformTarget =
      if s.supply.hold.isSome then s
      else if s.supply.settings.hold = 0 then (s.applyLevel s.supply.target).recomputeLimit
      else s.withSupply { s.supply with hold := some s.supply.settings.holdMicros } :=
  (if_neg fall.not_gt).trans (if_neg fall.ne)

/-- Settles O46, by the order of the target and the applied level. -/
theorem levelsRiseAtOnceAndFallAfterTheHold : Obligations.LevelsRiseAtOnceAndFallAfterTheHold := by
  unfold Obligations.LevelsRiseAtOnceAndFallAfterTheHold
  intro s rank passes target limit told
  have figure : ∀ x : SupplyLevel, effectiveLimit x s.context.current.poolLimit s.supply.settings = limit x :=
    fun x => by cases x <;> rfl
  have formed : s.supply.target = target := rfl
  refine ⟨fun rise => ?_, fun equal => ?_, fun fall holds => ?_, fun fall free waits => ?_, fun fall free at_once => ?_,
    fun running holds => ?_, s.recomputeLimit_eq (figure _)⟩
  · have risen := State.reformTarget_of_rise (s := s) rise
    obtain ⟨supply, notices, events, sequencer⟩ := s.announceLevel_recomputeLimit s.supply.target (figure _)
    rw [← risen] at supply notices events sequencer
    refine ⟨supply, notices, fun warn => ?_, fun crit => ?_, s.reformTarget_whole⟩
    · rw [events, sequencer, formed, warn]
      exact ⟨rfl, rfl⟩
    · rw [events, sequencer, formed, crit]
      obtain ⟨passed, blocked⟩ :=
        State.presentTrigger_by_gate ((s.applyLevel .crit).raiseEvent .overloadCrit 0) .overloadCrit
      obtain ⟨records, mask⟩ :=
        State.presentTrigger_records ((s.applyLevel .crit).raiseEvent .overloadCrit 0) .overloadCrit
      exact ⟨records, mask, passed, blocked⟩
  · exact State.reformTarget_of_equal equal
  · exact (State.reformTarget_of_fall fall).trans (if_pos holds)
  · rw [State.reformTarget_of_fall fall, free]
    exact if_neg waits
  · rw [State.reformTarget_of_fall fall, free]
    exact (if_pos at_once).trans (s.applyLevel_recomputeLimit target (figure target))
  · rw [exec, execRecoveryHoldExpiry, State.unlessHeld_running running, if_pos holds]
    exact congrArg Host.Outcome.next (s.applyLevel_recomputeLimit target (figure target))

/-! ### Reflect codes (R150, R151) -/

theorem ofNat_toNat_zeroExtend (m : BitVec 4) : BitVec.ofNat 16 m.toNat = m.zeroExtend 16 :=
  BitVec.ofNat_toNat 16 m

/-- Which chains are MISMATCHED once one chain's record changes. -/
theorem State.setMismatch_mask (s : State) (c : Chain) (m : MismatchChain) {test : Chain → Prop} [DecidablePred test]
    (tests : ∀ n : Chain, test n ↔ (if n = c then m else s.mismatch.chains[n]).state = .mismatched) :
    (s.setMismatch c m).mismatch.mismatchedMask = maskOf fun n => decide (test n) := by
  refine congrArg maskOf (funext fun n => ?_)
  have changed : (s.setMismatch c m).mismatch.chains[n] = if n = c then m else s.mismatch.chains[n] :=
    getElem_set_fin s.mismatch.chains c n m
  rw [changed, beq_eq_decide]
  exact decide_eq_decide.mpr (tests n).symm

/-- A chain enters MISMATCHED, told and recorded before its trigger is presented. -/
theorem State.enterMismatch_eq (s : State) (c : Chain) :
    s.enterMismatch c =
      (((s.setMismatch c ⟨.mismatched, 0, 0⟩).raiseEvent .mismatch (eventMask (chainBit c))).withNotices
        (arrive ⟨.mismatchChange, chainBit c,
          (maskOf fun n => decide (n = c ∨ s.mismatch.chains[n].state = .mismatched)).zeroExtend 16⟩
          s.notices)).presentTrigger .mismatch := by
  have mask : (s.setMismatch c ⟨.mismatched, 0, 0⟩).mismatch.mismatchedMask =
      maskOf fun n => decide (n = c ∨ s.mismatch.chains[n].state = .mismatched) := by
    refine s.setMismatch_mask c _ fun n => ?_
    by_cases same : n = c <;> simp [same]
  rw [← mask, ← ofNat_toNat_zeroExtend]
  rfl

theorem State.leaveMismatch_eq (s : State) (c : Chain) :
    s.leaveMismatch c =
      (s.setMismatch c ⟨.clear, 0, 0⟩).withNotices
        (arrive ⟨.mismatchChange, chainBit c,
          (maskOf fun n => decide (n ≠ c ∧ s.mismatch.chains[n].state = .mismatched)).zeroExtend 16⟩ s.notices) := by
  have mask : (s.setMismatch c ⟨.clear, 0, 0⟩).mismatch.mismatchedMask =
      maskOf fun n => decide (n ≠ c ∧ s.mismatch.chains[n].state = .mismatched) := by
    refine s.setMismatch_mask c _ fun n => ?_
    by_cases same : n = c <;> simp [same]
  rw [← mask, ← ofNat_toNat_zeroExtend]
  rfl

theorem State.presentTrigger_whole (s : State) (k : TriggerKind) :
    s.presentTrigger k =
      { s with events := (s.presentTrigger k).events, sequencer := (s.presentTrigger k).sequencer } := by
  have frame := State.presentTrigger_frame s k
  generalize s.presentTrigger k = t at frame ⊢
  cases t
  simp_all

theorem State.reflectCode_of_clear {s : State} {c : Chain} (clear : s.mismatch.chains[c].state = .clear) (r : Nat) :
    s.reflectCode c r =
      if s.mismatch.settings.threshold ≤ r then
        if s.mismatch.settings.runCount ≤ countRun s.mismatch.chains[c].overRun then s.enterMismatch c
        else s.setMismatch c { s.mismatch.chains[c] with overRun := countRun s.mismatch.chains[c].overRun }
      else s.setMismatch c { s.mismatch.chains[c] with overRun := 0 } := by
  unfold State.reflectCode
  dsimp only
  split
  next => rfl
  next mismatched => exact nomatch clear.symm.trans mismatched

theorem State.reflectCode_of_mismatched {s : State} {c : Chain} (state : s.mismatch.chains[c].state = .mismatched)
    (r : Nat) :
    s.reflectCode c r =
      if r < s.mismatch.settings.releaseThreshold then
        if s.mismatch.settings.runCount ≤ countRun s.mismatch.chains[c].underRun then s.leaveMismatch c
        else s.setMismatch c { s.mismatch.chains[c] with underRun := countRun s.mismatch.chains[c].underRun }
      else s.setMismatch c { s.mismatch.chains[c] with underRun := 0 } := by
  unfold State.reflectCode
  dsimp only
  split
  next clear => exact nomatch state.symm.trans clear
  next => rfl

/-- Settles O27, by the state of the chain's record and the code's place by the thresholds. -/
theorem reflectCodesMoveTheMismatchState : Obligations.ReflectCodesMoveTheMismatchState := by
  unfold Obligations.ReflectCodesMoveTheMismatchState
  intro s c r m x nOver nUnder wrote passes t
  refine ⟨fun clear low => ?_, fun clear high few => ?_, fun clear high enough => ?_, fun state high => ?_,
    fun state low few => ?_, fun state low enough => ?_⟩
  · exact (State.reflectCode_of_clear clear r).trans (if_neg low.not_ge)
  · exact (State.reflectCode_of_clear clear r).trans ((if_pos high).trans (if_neg few.not_ge))
  · have entered : t = _ :=
      (State.reflectCode_of_clear clear r).trans ((if_pos high).trans ((if_pos enough).trans (s.enterMismatch_eq c)))
    generalize arrive _ s.notices = q at entered ⊢
    obtain ⟨passed, blocked⟩ := State.presentTrigger_by_gate
      (((s.setMismatch c ⟨.mismatched, 0, 0⟩).raiseEvent .mismatch (eventMask (chainBit c))).withNotices q) .mismatch
    obtain ⟨records, mask⟩ := State.presentTrigger_records
      (((s.setMismatch c ⟨.mismatched, 0, 0⟩).raiseEvent .mismatch (eventMask (chainBit c))).withNotices q) .mismatch
    have whole := State.presentTrigger_whole
      (((s.setMismatch c ⟨.mismatched, 0, 0⟩).raiseEvent .mismatch (eventMask (chainBit c))).withNotices q) .mismatch
    rw [← entered] at passed blocked records mask whole
    have mismatch : t.mismatch = wrote ⟨.mismatched, 0, 0⟩ := congrArg State.mismatch whole
    have notices : t.notices = q := congrArg State.notices whole
    refine ⟨mismatch, ?_, notices, fun i other => ?_, mask, passed, blocked, ?_⟩
    · rw [records]
      exact (getElem_set_fin s.events.records 3 3 _).trans (if_pos rfl)
    · rw [records]
      exact (getElem_set_fin s.events.records 3 i _).trans (if_neg other)
    · rw [mismatch, notices]
      exact whole
  · exact (State.reflectCode_of_mismatched state r).trans (if_neg high.not_gt)
  · exact (State.reflectCode_of_mismatched state r).trans ((if_pos low).trans (if_neg few.not_ge))
  · exact (State.reflectCode_of_mismatched state r).trans
      ((if_pos low).trans ((if_pos enough).trans (s.leaveMismatch_eq c)))

end Sys2Proof.Machine
end

section
/-! Proofs about charges (R8, R61 to R63) and about the ends of grants: lapses, link resets and closes (R45 to R54). -/

namespace Sys2Proof.Machine

/-! ### Charges -/

/-- A charge carries on what is below one eu, whatever it charges. -/
theorem WindowChain.charge_residue (w : WindowChain) (i p d : Nat) : (w.charge i p d).residue = w.chargeSum p d % 64 := by
  rcases w.charge_cases i p d with ⟨-, charged⟩ | ⟨-, charged⟩ <;> rw [charged]

/-- The chain's account and the amount charged so far, once one more charge is taken (R8). -/
def chargeStep (current : Nat) (x : WindowChain × Nat) (q : Nat × Nat) : WindowChain × Nat :=
  (x.1.charge current q.1 q.2, x.2 + (linearPower q.1 * q.2 + x.1.residue) / 64)

/-- Amounts and residue together hold every product charged. -/
theorem chargeStep_foldl (current : Nat) (charges : List (Nat × Nat)) (x : WindowChain × Nat) :
    64 * (charges.foldl (chargeStep current) x).2 + (charges.foldl (chargeStep current) x).1.residue =
      64 * x.2 + x.1.residue + (charges.map fun q => linearPower q.1 * q.2).sum := by
  induction charges generalizing x with
  | nil => simp
  | cons q rest ih =>
    have carried : (chargeStep current x q).1.residue = (linearPower q.1 * q.2 + x.1.residue) % 64 :=
      x.1.charge_residue current q.1 q.2
    have amount : (chargeStep current x q).2 = x.2 + (linearPower q.1 * q.2 + x.1.residue) / 64 := rfl
    rw [List.foldl_cons, ih, carried, amount, List.map_cons, List.sum_cons]
    omega

theorem WindowChain.charge_zero_duration {w : WindowChain} (rest : w.residue < 64) (current p : Nat) :
    w.charge current p 0 = w := by
  have sum : w.chargeSum p 0 = w.residue := by simp [WindowChain.chargeSum]
  have none_charged : w.chargeSum p 0 / 64 = 0 := by omega
  rw [WindowChain.charge, if_pos none_charged, sum, Nat.mod_eq_of_lt rest]

/-- Settles O14: what a sequence of charges keeps, then one charge by its amount and its bucket. -/
theorem chargesLoseNoProduct : Obligations.ChargesLoseNoProduct := by
  unfold Obligations.ChargesLoseNoProduct
  refine ⟨fun charges w current => ?_, fun w current p rest => WindowChain.charge_zero_duration rest current p,
    fun w current p d rest whole below => ?_, fun w i p d b at_i bounded heat => ?_⟩
  · exact (chargeStep_foldl current charges (w, 0)).trans (by simp)
  · have product : linearPower p * d % 64 = 0 := by rw [Nat.mul_mod, linearPower_mod_64 whole, Nat.zero_mul, Nat.zero_mod]
    rw [WindowChain.charge_residue, WindowChain.chargeSum]
    omega
  · intro a v
    have bucket : w.ring.getD i ⟨0, false⟩ = b := by
      rw [List.getD_eq_getElem?_getD, at_i, Option.getD_some]
    have amount : w.chargeSum p d / 64 = a := rfl
    rcases w.charge_cases i p d with ⟨none_charged, charged⟩ | ⟨some_charged, charged⟩
    · have zero : a = 0 := none_charged
      change v = _ at charged
      rw [charged, zero]
      refine ⟨rfl, ?_, fun _ => ⟨rfl, rfl⟩, fun h => absurd h (Nat.lt_irrefl 0), fun h => absurd h (Nat.lt_irrefl 0)⟩
      exact (min_eq_left heat).symm
    · rw [amount] at some_charged
      rw [amount, bucket] at charged
      change v = _ at charged
      rw [charged]
      refine ⟨rfl, rfl, fun zero => absurd zero some_charged, fun _ fits => ?_, fun _ overflows => ?_⟩
      · have held : b.add a = ⟨b.energy + a, b.pinned⟩ := if_pos fits
        rw [held]
        exact ⟨rfl, congrArg (w.sum + ·) (Nat.add_sub_cancel_left _ _)⟩
      · have pinned : b.add a = ⟨max32, true⟩ := if_neg (Nat.not_lt.mpr overflows)
        rw [pinned]
        exact ⟨rfl, rfl⟩

/-! ### Lapses -/

/-- The record that leaves a list is the first with its tag. -/
theorem GrantChain.release_of_split {x : GrantChain} {before after : List OpenGrant} {g : OpenGrant}
    (list : x.opened = before ++ g :: after) (first : ∀ y ∈ before, y.tag ≠ g.tag) :
    x.release g = { x with opened := before ++ after, reserved := x.reserved - g.projected } := by
  have erased : x.opened.eraseP (fun y => y.tag == g.tag) = before ++ after := by
    rw [list, List.eraseP_append_right _ (by simpa using first), List.eraseP_cons_of_pos (by simp)]
  rw [GrantChain.release, erased]

theorem State.takeLapse_of_split {s : State} {c : Chain} {before after : List OpenGrant} {g : OpenGrant}
    (list : s.grants.chains[c].opened = before ++ g :: after) (first : ∀ y ∈ before, y.tag ≠ g.tag) :
    s.takeLapse c g.tag = s.lapseGrant c g := by
  have found : s.grants.chains[c].opened.find? (·.tag == g.tag) = some g := by
    rw [List.find?_eq_some_iff_append]
    exact ⟨by simp, before, after, list, by simpa using first⟩
  rw [State.takeLapse, found]

/-- Settles O25: a lapse is charged, recorded and removed. -/
theorem lapseChargesAsGranted : Obligations.LapseChargesAsGranted := by
  unfold Obligations.LapseChargesAsGranted
  intro c s before after g running list first
  have released := GrantChain.release_of_split list first
  rw [exec, execLapse, State.unlessHeld_running running, State.takeLapse_of_split list first]
  have removed : s.lapseGrant c g =
      { s with
        windows := (s.charge c g.code g.duration).windows
        events := (s.raiseEvent .lapse (eventMask (chainBit c))).events
        grants := ⟨s.grants.chains.set c ((s.grants.chains[c]).release g), s.grants.poolSum - g.power⟩ } := rfl
  rw [removed, released]
  rfl

/-! ### Link resets -/

/-- A chain's account once every record of its list is charged as granted, oldest first (R54, step 1). -/
def State.chargedAccount (s : State) (c : Chain) : WindowChain :=
  s.grants.chains[c].opened.foldl (fun w g => w.charge s.windows.current g.code g.duration) s.windows.chains[c]

/-- The windows with the accounts of some chains charged. -/
def State.chargedWindows (s : State) (l : List Chain) : WindowUnit :=
  { s.windows with
    chains := Vector.ofFn fun c : Fin 4 => if c ∈ l then s.chargedAccount c else s.windows.chains[c] }

theorem foldl_charge_eq (c : Chain) (l : List OpenGrant) (s : State) :
    l.foldl (fun t g => t.charge c g.code g.duration) s =
      s.withWindows { s.windows with
        chains := s.windows.chains.set c
          (l.foldl (fun w g => w.charge s.windows.current g.code g.duration) s.windows.chains[c]) } := by
  induction l generalizing s with
  | nil =>
    have same : s.windows.chains.set c s.windows.chains[c] = s.windows.chains := Vector.set_getElem_self _
    rw [List.foldl_nil, List.foldl_nil, same]
    rfl
  | cons g l ih =>
    have own : (s.charge c g.code g.duration).windows.chains[c] =
        s.windows.chains[c].charge s.windows.current g.code g.duration :=
      (getElem_set_fin s.windows.chains c c _).trans (if_pos rfl)
    have again : ∀ x : WindowChain,
        (s.charge c g.code g.duration).windows.chains.set c x = s.windows.chains.set c x := fun x =>
      Vector.set_set ..
    rw [List.foldl_cons, ih, own, again]
    rfl

theorem State.chargeOpen_eq (s : State) (c : Chain) :
    s.chargeOpen c = s.withWindows { s.windows with chains := s.windows.chains.set c (s.chargedAccount c) } :=
  foldl_charge_eq c _ s

theorem foldl_chargeOpen_eq {l : List Chain} (distinct : l.Nodup) (s : State) :
    l.foldl State.chargeOpen s = s.withWindows (s.chargedWindows l) := by
  induction l generalizing s with
  | nil =>
    have same : s.chargedWindows [] = s.windows := by
      simp [State.chargedWindows]
    rw [List.foldl_nil, same]
    rfl
  | cons c l ih =>
    obtain ⟨absent, distinct⟩ := List.nodup_cons.mp distinct
    have own : ∀ d : Chain, (s.chargeOpen c).windows.chains[d] =
        if d = c then s.chargedAccount c else s.windows.chains[d] := fun d => by
      rw [s.chargeOpen_eq c]
      exact getElem_set_fin s.windows.chains c d _
    have others : ∀ d : Chain, d ≠ c → (s.chargeOpen c).chargedAccount d = s.chargedAccount d := fun d other => by
      rw [State.chargedAccount, own d, if_neg other, s.chargeOpen_eq c]
      rfl
    have charged : (s.chargeOpen c).chargedWindows l = s.chargedWindows (c :: l) := by
      have chains : (fun d : Fin 4 => if d ∈ l then (s.chargeOpen c).chargedAccount d
            else (s.chargeOpen c).windows.chains[d]) =
          fun d => if d ∈ c :: l then s.chargedAccount d else s.windows.chains[d] := by
        funext d
        by_cases same : d = c
        · subst same
          rw [if_neg absent, if_pos List.mem_cons_self, own d, if_pos rfl]
        · rw [others d same, own d, if_neg same]
          simp only [List.mem_cons, same, false_or]
      rw [State.chargedWindows, chains, s.chargeOpen_eq c]
      rfl
    rw [List.foldl_cons, ih distinct, charged, s.chargeOpen_eq c]
    rfl

/-- Settles O26: each chain's account is charged by itself. -/
theorem linkResetEmptiesListsAndNotices : Obligations.LinkResetEmptiesListsAndNotices := by
  unfold Obligations.LinkResetEmptiesListsAndNotices
  intro s running
  have charged : allChains.foldl State.chargeOpen s = s.withWindows { s.windows with
      chains := Vector.ofFn fun c : Fin 4 => s.chargedAccount c } := by
    rw [foldl_chargeOpen_eq (by decide), State.chargedWindows]
    have every : ∀ c : Chain, c ∈ allChains := by decide
    simp only [every, if_true]
  have reset : s.linkReset =
      ((s.withWindows { s.windows with chains := Vector.ofFn fun c : Fin 4 => s.chargedAccount c }).withGrants
        s.grants.emptied).withNotices [] := by
    rw [State.linkReset, charged]
    rfl
  rw [exec, execLinkReset, State.unlessHeld_running running, reset]
  rfl

end Sys2Proof.Machine
end

section
/-! Proofs about closes (R45 to R49): what a close makes of its record, whatever was charged and raised before. -/

namespace Sys2Proof.Machine

/-! ### A reflect code after other records have moved -/

/-- The state with other grants, windows and events: what a close has done before it passes its reflect code. -/
def State.withCharged (s : State) (G : GrantTable) (w : WindowUnit) (e : EventLatch) : State :=
  ((s.withGrants G).withWindows w).withEvents e

/-- Two states agree on what a reflect code moves: the Mismatch Monitor, the queue, the sequencer, the MISMATCH record
and the trigger latch. -/
structure State.ReflectAgrees (t v : State) : Prop where
  mismatch : t.mismatch = v.mismatch
  notices : t.notices = v.notices
  sequencer : t.sequencer = v.sequencer
  record : t.events.records[(3 : Fin 9)] = v.events.records[(3 : Fin 9)]
  latch : t.events.latch = v.events.latch

/-- A state has moved from another in what a reflect code moves, and in nothing else. -/
structure State.ReflectMoves (u t : State) : Prop where
  records : ∀ i : Fin 9, i ≠ 3 → t.events.records[i] = u.events.records[i]
  alertMask : t.events.alertMask = u.events.alertMask
  whole : t = { u with
    mismatch := t.mismatch, events := t.events, notices := t.notices, sequencer := t.sequencer }

theorem State.presentTrigger_agrees {t v : State} (agree : State.ReflectAgrees t v) (context : t.context = v.context)
    (loader : t.loader = v.loader) (k : TriggerKind) :
    State.ReflectAgrees (t.presentTrigger k) (v.presentTrigger k) := by
  obtain ⟨mismatch, notices, sequencer, record, latch⟩ := agree
  have gate : t.triggerPasses k = v.triggerPasses k := by
    rw [State.triggerPasses, State.triggerPasses, State.isLoading, State.isLoading, context, loader, latch]
  by_cases passes : v.triggerPasses k = true
  · rw [State.presentTrigger_of_passes passes, State.presentTrigger_of_passes (gate.trans passes)]
    exact ⟨mismatch, notices, by rw [State.withSequencer_sequencer, State.withSequencer_sequencer, sequencer], record, rfl⟩
  · rw [State.presentTrigger_of_blocked passes, State.presentTrigger_of_blocked (gate ▸ passes)]
    exact ⟨mismatch, notices, sequencer, record, latch⟩

section
variable (s : State) (G : GrantTable) (w : WindowUnit) {e : EventLatch}
  (record : e.records[(3 : Fin 9)] = s.events.records[(3 : Fin 9)]) (latch : e.latch = s.events.latch)
include record latch

theorem State.enterMismatch_agrees (c : Chain) :
    State.ReflectAgrees ((s.withCharged G w e).enterMismatch c) (s.enterMismatch c) := by
  rw [State.enterMismatch_eq, State.enterMismatch_eq]
  refine State.presentTrigger_agrees ?_ ?_ ?_ _
  case refine_2 => rfl
  case refine_3 => rfl
  refine ⟨rfl, rfl, rfl, ?_, latch⟩
  have taken : ∀ f : EventLatch, (f.records.set (3 : Fin 9) ((f.records[(3 : Fin 9)]).take (eventMask (chainBit c))))[(3 : Fin 9)] =
      (f.records[(3 : Fin 9)]).take (eventMask (chainBit c)) := fun f => by
    rw [getElem_set_fin, if_pos rfl]
  exact (taken e).trans ((congrArg (fun r : EventRecord => r.take _) record).trans (taken s.events).symm)

theorem State.reflectCode_agrees (c : Chain) (r : Nat) :
    State.ReflectAgrees ((s.withCharged G w e).reflectCode c r) (s.reflectCode c r) := by
  have still : ∀ m : MismatchChain, State.ReflectAgrees ((s.withCharged G w e).setMismatch c m) (s.setMismatch c m) :=
    fun m => ⟨rfl, rfl, rfl, record, latch⟩
  have left : State.ReflectAgrees ((s.withCharged G w e).leaveMismatch c) (s.leaveMismatch c) :=
    ⟨rfl, rfl, rfl, record, latch⟩
  have entered := s.enterMismatch_agrees G w record latch c
  cases state : s.mismatch.chains[c].state with
  | clear =>
    rw [State.reflectCode_of_clear state, State.reflectCode_of_clear (s := s.withCharged G w e) state]
    change State.ReflectAgrees (if s.mismatch.settings.threshold ≤ r then
      if s.mismatch.settings.runCount ≤ countRun s.mismatch.chains[c].overRun then _ else _ else _) _
    split_ifs
    exacts [entered, still _, still _]
  | mismatched =>
    rw [State.reflectCode_of_mismatched state, State.reflectCode_of_mismatched (s := s.withCharged G w e) state]
    change State.ReflectAgrees (if r < s.mismatch.settings.releaseThreshold then
      if s.mismatch.settings.runCount ≤ countRun s.mismatch.chains[c].underRun then _ else _ else _) _
    split_ifs
    exacts [left, still _, still _]

end

theorem State.reflectCode_moves (u : State) (c : Chain) (r : Nat) : State.ReflectMoves u (u.reflectCode c r) := by
  have still : ∀ m : MismatchChain, State.ReflectMoves u (u.setMismatch c m) := fun m => ⟨fun _ _ => rfl, rfl, rfl⟩
  have left : State.ReflectMoves u (u.leaveMismatch c) := ⟨fun _ _ => rfl, rfl, rfl⟩
  have entered : State.ReflectMoves u (u.enterMismatch c) := by
    rw [State.enterMismatch_eq]
    generalize told : (((u.setMismatch c ⟨.mismatched, 0, 0⟩).raiseEvent .mismatch (eventMask (chainBit c))).withNotices
      _) = v
    obtain ⟨records, mask⟩ := v.presentTrigger_records .mismatch
    have whole := v.presentTrigger_whole .mismatch
    generalize v.presentTrigger .mismatch = t at *
    subst told
    refine ⟨fun i other => ?_, mask, ?_⟩
    · rw [records]
      exact (getElem_set_fin u.events.records 3 i _).trans (if_neg other)
    · rw [whole]
      rfl
  cases state : u.mismatch.chains[c].state with
  | clear =>
    rw [State.reflectCode_of_clear state]
    split_ifs
    exacts [entered, still _, still _]
  | mismatched =>
    rw [State.reflectCode_of_mismatched state]
    split_ifs
    exacts [left, still _, still _]

/-! ### The record that is closed -/

/-- A close is in excess of its grant (R46). -/
def OpenGrant.Exceeded (g : OpenGrant) (pact d : Nat) : Prop :=
  1 ≤ d ∧ (g.code < pact ∨ g.duration < d)

theorem excessClose_iff (g : OpenGrant) (pact d : Nat) : excessClose g pact d = true ↔ g.Exceeded pact d :=
  decide_eq_true_iff

/-- What closing a record leaves behind its grants and windows, from a state whose Event Latch was `e` and which, but
for that, its grants and its windows, was `s`. -/
structure State.CloseLeaves (s : State) (e : EventLatch) (c : Chain) (g : OpenGrant) (pact d r : Nat) (t : State) :
    Prop where
  excess : g.Exceeded pact d → t.events.records[(5 : Fin 9)] = (e.records[(5 : Fin 9)]).take (eventMask (chainBit c))
  no_excess : ¬ g.Exceeded pact d → t.events.records[(5 : Fin 9)] = e.records[(5 : Fin 9)]
  others : ∀ i : Fin 9, i ≠ 3 → i ≠ 5 → t.events.records[i] = e.records[i]
  unsent : d = 0 → t.mismatch = s.mismatch ∧ t.notices = s.notices ∧ t.sequencer = s.sequencer ∧ t.events = e
  sent : 1 ≤ d → State.ReflectAgrees t (s.reflectCode c r)
  alertMask : t.events.alertMask = e.alertMask
  whole : t = { s with
    grants := t.grants, windows := t.windows, events := t.events, mismatch := t.mismatch, notices := t.notices,
    sequencer := t.sequencer }

/-- The Event Latch once a close has been tested for excess (R46). -/
def excessTested (e : EventLatch) (c : Chain) (g : OpenGrant) (pact d : Nat) : EventLatch :=
  if excessClose g pact d then
    { e with records := e.records.set (5 : Fin 9) ((e.records[(5 : Fin 9)]).take (eventMask (chainBit c))) }
  else e

theorem excessTested_frame (e : EventLatch) (c : Chain) (g : OpenGrant) (pact d : Nat) :
    (∀ i : Fin 9, i ≠ 5 → (excessTested e c g pact d).records[i] = e.records[i]) ∧
      (excessTested e c g pact d).alertMask = e.alertMask ∧ (excessTested e c g pact d).latch = e.latch := by
  unfold excessTested
  split
  next => exact ⟨fun i other => (getElem_set_fin _ _ _ _).trans (if_neg other), rfl, rfl⟩
  next => exact ⟨fun _ _ => rfl, rfl, rfl⟩

theorem excessTested_of_exceeded {g : OpenGrant} {pact d : Nat} (exceeded : g.Exceeded pact d) (e : EventLatch)
    (c : Chain) :
    (excessTested e c g pact d).records[(5 : Fin 9)] = (e.records[(5 : Fin 9)]).take (eventMask (chainBit c)) := by
  rw [excessTested, if_pos ((excessClose_iff g pact d).mpr exceeded), getElem_set_fin, if_pos rfl]

theorem excessTested_of_within {g : OpenGrant} {pact d : Nat} (within : ¬ g.Exceeded pact d) (e : EventLatch)
    (c : Chain) : excessTested e c g pact d = e := by
  rw [excessTested, if_neg (mt (excessClose_iff g pact d).mp within)]

theorem State.closeRecord_eq (s : State) (G : GrantTable) (w : WindowUnit) (e : EventLatch) (c : Chain) (g : OpenGrant)
    (pact d r : Nat) :
    (s.withCharged G w e).closeRecord c g pact d r =
      let charged := s.withCharged G
        { w with chains := w.chains.set c (w.chains[c].charge w.current pact d) } (excessTested e c g pact d)
      (if 1 ≤ d then charged.reflectCode c r else charged).removeGrant c g := by
  have tested : (if excessClose g pact d then (s.withCharged G w e).raiseEvent .excess (eventMask (chainBit c))
      else s.withCharged G w e) = s.withCharged G w (excessTested e c g pact d) := by
    unfold excessTested
    split <;> rfl
  rw [State.closeRecord, tested]
  rfl

theorem State.closeRecord_leaves (s : State) (G : GrantTable) (w : WindowUnit) {e : EventLatch}
    (record : e.records[(3 : Fin 9)] = s.events.records[(3 : Fin 9)]) (latch : e.latch = s.events.latch) (c : Chain)
    (g : OpenGrant) (pact d r : Nat) :
    s.CloseLeaves e c g pact d r ((s.withCharged G w e).closeRecord c g pact d r) := by
  obtain ⟨stands, mask, latched⟩ := excessTested_frame e c g pact d
  rw [State.closeRecord_eq]
  generalize charged_windows : ({ w with chains := w.chains.set c (w.chains[c].charge w.current pact d) } :
    WindowUnit) = w'
  generalize tested : excessTested e c g pact d = e' at stands mask latched
  have exceeded : g.Exceeded pact d → e'.records[(5 : Fin 9)] = (e.records[(5 : Fin 9)]).take (eventMask (chainBit c)) :=
    fun h => tested ▸ excessTested_of_exceeded h e c
  have within : ¬ g.Exceeded pact d → e' = e := fun h => tested ▸ excessTested_of_within h e c
  dsimp only
  by_cases sent : 1 ≤ d
  · have agrees := s.reflectCode_agrees G w' ((stands 3 (by decide)).trans record) (latched.trans latch) c r
    have moves := (s.withCharged G w' e').reflectCode_moves c r
    rw [if_pos sent]
    generalize (s.withCharged G w' e').reflectCode c r = t at agrees moves
    obtain ⟨records, alertMask, whole⟩ := moves
    have excess_stands : t.events.records[(5 : Fin 9)] = e'.records[(5 : Fin 9)] := records 5 (by decide)
    exact {
      excess := fun h => excess_stands.trans (exceeded h)
      no_excess := fun h => excess_stands.trans (by rw [within h])
      others := fun i mismatch excess => (records i mismatch).trans (stands i excess)
      unsent := fun zero => by omega
      sent := fun _ => ⟨agrees.mismatch, agrees.notices, agrees.sequencer, agrees.record, agrees.latch⟩
      alertMask := alertMask.trans mask
      whole := by
        rw [whole]
        rfl }
  · have zero : d = 0 := by omega
    have not_exceeded : ¬ g.Exceeded pact d := fun h => sent h.1
    rw [if_neg sent, within not_exceeded]
    exact {
      excess := fun h => absurd h not_exceeded
      no_excess := fun _ => rfl
      others := fun _ _ _ => rfl
      unsent := fun _ => ⟨rfl, rfl, rfl, rfl⟩
      sent := fun h => absurd h sent
      alertMask := rfl
      whole := rfl }

/-! ### The two ways a close finds its record -/

theorem toByte_chain (c : Chain) : (toByte c.val).toNat = c.val :=
  toByte_toNat_of_lt (Nat.lt_trans c.isLt (by decide))

theorem State.closeOn_of_oldest {s : State} {c : Chain} {tag : Byte} {g : OpenGrant} {rest : List OpenGrant}
    (list : s.grants.chains[c].opened = g :: rest) (named : g.tag = tag) (pact dact r : Nat) :
    s.closeOn c tag pact dact r = ⟨s.closeRecord c g pact dact r, .closed⟩ := by
  rw [State.closeOn, list]
  exact if_pos named

theorem State.closeOn_of_younger {s : State} {c : Chain} {tag : Byte} {old g : OpenGrant}
    (list : s.grants.chains[c].opened = [old, g]) (other : old.tag ≠ tag) (named : g.tag = tag) (pact dact r : Nat) :
    s.closeOn c tag pact dact r = ⟨(s.lapseGrant c old).closeRecord c g pact dact r, .closedWithLapse⟩ := by
  have found : [g].find? (·.tag == tag) = some g := List.find?_cons_of_pos (by simpa using named)
  rw [State.closeOn, list]
  refine (if_neg other).trans ?_
  rw [found]

/-- A response tells the kind and the answer; the header is the epoch's and the load state's. -/
theorem State.answerLink_of_whole {s t : State} (link : t.link = s.link) (loader : t.loader = s.loader) (kind : Byte)
    (answer : List Byte) :
    (t.answerLink kind answer).link = { s.link with response := s.linkHeader kind ++ answer } := by
  rw [State.answerLink_link, State.linkHeader, State.linkHeader, State.isLoading, State.isLoading, link, loader]

/-- Settles O23: the oldest record is closed from the state as it stands. -/
theorem closeOfOldestRecord : Obligations.CloseOfOldestRecord := by
  unfold Obligations.CloseOfOldestRecord
  intro c tag pact dact r s g rest running list named d excess u
  have closed := State.closeOn_of_oldest list named pact.toNat (clampDuration dact.toNat) (min r.toNat 15)
  have answered : exec (.burstClose (toByte c.val) tag pact dact r) s =
      .next ((s.closeRecord c g pact.toNat d (min r.toNat 15)).answerLink 0x02 [0x00, toByte c.val, tag]) := by
    rw [exec_burstClose_of_chain running (toByte_chain c), closed]
    rfl
  have leaves := s.closeRecord_leaves s.grants s.windows (e := s.events) rfl rfl c g pact.toNat d (min r.toNat 15)
  have grants := s.closeRecord_grants c g pact.toNat d (min r.toNat 15)
  have windows := s.closeRecord_windows c g pact.toNat d (min r.toNat 15)
  have released := GrantChain.release_of_split (before := []) list (by simp)
  rw [State.removeGrant_grants, released] at grants
  change s.CloseLeaves s.events c g pact.toNat d (min r.toNat 15) (s.closeRecord c g pact.toNat d (min r.toNat 15)) at leaves
  refine ⟨_, answered, ?_⟩
  generalize s.closeRecord c g pact.toNat d (min r.toNat 15) = t at leaves grants windows
  obtain ⟨exceeded, within, others, unsent, sent, alertMask, whole⟩ := leaves
  have kept : t.link = s.link ∧ t.loader = s.loader := by
    rw [whole]
    exact ⟨rfl, rfl⟩
  have link := State.answerLink_of_whole kept.1 kept.2 0x02 [0x00, toByte c.val, tag]
  refine ⟨grants, windows, exceeded, within, others, unsent, fun burst => ?_, alertMask, link, ?_⟩
  · obtain ⟨mismatch, notices, sequencer, record, latch⟩ := sent burst
    exact ⟨mismatch, notices, sequencer, record, latch⟩
  · rw [whole]
    rfl

/-- Settles O24: the older lapses, and the named one is closed from the state that leaves. -/
theorem outOfOrderCloseLapsesTheOlder : Obligations.OutOfOrderCloseLapsesTheOlder := by
  unfold Obligations.OutOfOrderCloseLapsesTheOlder
  intro c tag pact dact r s old g running list other named d w u
  have closed := State.closeOn_of_younger list other named pact.toNat (clampDuration dact.toNat) (min r.toNat 15)
  have answered : exec (.burstClose (toByte c.val) tag pact dact r) s = .next
      (((s.lapseGrant c old).closeRecord c g pact.toNat d (min r.toNat 15)).answerLink 0x02 [0x01, toByte c.val, tag]) := by
    rw [exec_burstClose_of_chain running (toByte_chain c), closed]
    rfl
  have lapsed : ∀ i : Fin 9, (s.raiseEvent .lapse (eventMask (chainBit c))).events.records[i] =
      if i = 6 then (s.events.records[(6 : Fin 9)]).take (eventMask (chainBit c)) else s.events.records[i] := fun i =>
    getElem_set_fin s.events.records 6 i _
  have leaves := s.closeRecord_leaves (s.lapseGrant c old).grants (s.lapseGrant c old).windows
    (e := (s.raiseEvent .lapse (eventMask (chainBit c))).events) ((lapsed 3).trans (if_neg (by decide))) rfl c g
    pact.toNat d (min r.toNat 15)
  have grants := (s.lapseGrant c old).closeRecord_grants c g pact.toNat d (min r.toNat 15)
  have windows := (s.lapseGrant c old).closeRecord_windows c g pact.toNat d (min r.toNat 15)
  have left : (s.grants.chains[c]).release old = { s.grants.chains[c] with
      opened := [g], reserved := s.grants.chains[c].reserved - old.projected } :=
    GrantChain.release_of_split (before := []) list (by simp)
  have emptied : ((s.grants.chains[c]).release old).release g = { s.grants.chains[c] with
      opened := [], reserved := s.grants.chains[c].reserved - old.projected - g.projected } := by
    rw [left]
    exact GrantChain.release_of_split (before := []) rfl (by simp)
  have after_lapse : (s.lapseGrant c old).grants =
      ⟨s.grants.chains.set c ((s.grants.chains[c]).release old), s.grants.poolSum - old.power⟩ := rfl
  have first_gone : (s.grants.chains.set c ((s.grants.chains[c]).release old))[c] = (s.grants.chains[c]).release old :=
    (getElem_set_fin _ _ _ _).trans (if_pos rfl)
  rw [State.removeGrant_grants, after_lapse, first_gone, emptied, Vector.set_set] at grants
  have charged : (s.lapseGrant c old).windows =
      { s.windows with chains := s.windows.chains.set c (w.charge s.windows.current old.code old.duration) } := rfl
  have charged_first : (s.windows.chains.set c (w.charge s.windows.current old.code old.duration))[c] =
      w.charge s.windows.current old.code old.duration := (getElem_set_fin _ _ _ _).trans (if_pos rfl)
  rw [State.charge_windows, charged, charged_first, Vector.set_set] at windows
  change s.CloseLeaves (s.raiseEvent .lapse (eventMask (chainBit c))).events c g pact.toNat d (min r.toNat 15)
    ((s.lapseGrant c old).closeRecord c g pact.toNat d (min r.toNat 15)) at leaves
  refine ⟨_, answered, ?_⟩
  generalize (s.lapseGrant c old).closeRecord c g pact.toNat d (min r.toNat 15) = t at leaves grants windows
  obtain ⟨exceeded, within, others, unsent, sent, alertMask, whole⟩ := leaves
  have kept : t.link = s.link ∧ t.loader = s.loader := by
    rw [whole]
    exact ⟨rfl, rfl⟩
  have link := State.answerLink_of_whole kept.1 kept.2 0x02 [0x01, toByte c.val, tag]
  refine ⟨grants, windows, ?_, fun h => ?_, fun h => ?_, fun i h3 h5 h6 => ?_, fun zero => ?_, fun burst => ?_, alertMask,
    link, ?_⟩
  · exact (others 6 (by decide) (by decide)).trans ((lapsed 6).trans (if_pos rfl))
  · exact (exceeded h).trans (congrArg (fun x : EventRecord => x.take (eventMask (chainBit c)))
      ((lapsed 5).trans (if_neg (by decide))))
  · exact (within h).trans ((lapsed 5).trans (if_neg (by decide)))
  · exact (others i h3 h5).trans ((lapsed i).trans (if_neg h6))
  · obtain ⟨mismatch, notices, sequencer, events⟩ := unsent zero
    have latch : t.events.latch = s.events.latch := by
      rw [events]
      rfl
    refine ⟨mismatch, notices, sequencer, ?_, latch⟩
    exact (congrArg (fun e : EventLatch => e.records[(3 : Fin 9)]) events).trans ((lapsed 3).trans (if_neg (by decide)))
  · obtain ⟨mismatch, notices, sequencer, record, latch⟩ := sent burst
    exact ⟨mismatch, notices, sequencer, record, latch⟩
  · rw [whole]
    rfl

end Sys2Proof.Machine
end

section
/-! Proofs about requests (chapter 2): refusals, ceilings, the candidate and the limiting factor, and what a grant
obeys. -/

namespace Sys2Proof.Machine

/-! ### What a request is answered -/

theorem exec_burstReq {s : State} (running : s.rstHeld = false) (chain tag preq duration : Byte) (desc : Descriptor) :
    exec (.burstReq chain tag preq duration desc) s =
      let r := s.takeRequest chain tag preq.toNat (clampDuration duration.toNat) desc
      .next (r.state.answerLink 0x01 r.record.bytes) := by
  rw [exec, execBurstReq, State.unlessHeld_running running]

theorem clampDuration_eq_zero_iff (b : Byte) : clampDuration b.toNat = 0 ↔ b = 0 := by
  have zero : b.toNat = 0 ↔ b = 0 := ⟨fun h => BitVec.eq_of_toNat_eq h, fun h => by rw [h]; rfl⟩
  rw [← zero, clampDuration]
  omega

/-- A refused request is answered with its code and changes nothing. -/
theorem exec_burstReq_of_refused {s : State} (running : s.rstHeld = false) {chain tag duration : Byte}
    {code : RefusalCode} (refused : s.refusalOf chain tag (clampDuration duration.toNat) = some code) (preq : Byte)
    (desc : Descriptor) :
    exec (.burstReq chain tag preq duration desc) s =
      .next (s.answerLink 0x01 [0x02, tag, chain, 0, 0, 0, 0, 0, 0, toByte (refusalCode (some code))]) := by
  rw [exec_burstReq running, State.takeRequest_of_refused refused]
  rfl

/-- A request that passes the four refusals. -/
theorem State.refusalOf_eq_none {s : State} {chain tag duration : Byte} {c : Chain} (valid : chain.toNat = c.val)
    (timed : duration ≠ 0) (room : s.grants.chains[c].opened.length < 2)
    (fresh : ∀ g ∈ s.grants.chains[c].opened, g.tag ≠ tag) :
    s.refusalOf chain tag (clampDuration duration.toNat) = none :=
  (s.refusalOf_eq_none_iff chain tag _).mpr
    ⟨c, chainOf_eq_some_iff.mpr valid, mt (clampDuration_eq_zero_iff duration).mp timed, room, fresh⟩

/-- Settles O15: the refusals in their order, then the disabled chain. -/
theorem requestsRefusedOrDisabled : Obligations.RequestsRefusedOrDisabled := by
  unfold Obligations.RequestsRefusedOrDisabled
  intro chain tag preq duration desc s running refused
  refine ⟨fun bad => ?_, fun c valid => ⟨fun untimed => ?_, fun timed full => ?_, fun timed room held => ?_,
    fun timed room fresh disabled => ?_⟩⟩
  · refine exec_burstReq_of_refused running (code := .badChain) ?_ preq desc
    rw [State.refusalOf, chainOf_eq_none bad]
  · refine exec_burstReq_of_refused running (code := .badDuration) ?_ preq desc
    rw [State.refusalOf, chainOf_eq_some valid]
    exact if_pos ((clampDuration_eq_zero_iff duration).mpr untimed)
  · refine exec_burstReq_of_refused running (code := .openFull) ?_ preq desc
    rw [State.refusalOf, chainOf_eq_some valid]
    exact (if_neg (mt (clampDuration_eq_zero_iff duration).mp timed)).trans (if_pos full)
  · refine exec_burstReq_of_refused running (code := .dupTag) ?_ preq desc
    rw [State.refusalOf, chainOf_eq_some valid]
    refine (if_neg (mt (clampDuration_eq_zero_iff duration).mp timed)).trans ((if_neg room.not_ge).trans (if_pos ?_))
    simpa using held
  · rw [exec_burstReq running, State.takeRequest_of_accepted (chainOf_eq_some valid)
      (State.refusalOf_eq_none valid timed room fresh), disabled]
    rfl

/-! ### Issued or withheld -/

/-- An issued grant opens its record and is told with its record's figures (R30 to R34, R39, R40). -/
theorem State.issueOrWithhold_of_issued {s : State} {c : Chain} {p : Nat}
    (enough : s.context.current.chains[c].minimum ≤ p) (chain tag : Byte) (preq d cls : Nat) (factor : Factor) :
    s.issueOrWithhold c chain tag preq d cls factor (some p) =
      ⟨(s.setEngine c ((s.engine[c]).countIssued (decide (p < preq)) factor)).openGrant c (s.newGrant tag p d),
        grantedRecord chain tag p preq factor cls (s.framed c)⟩ :=
  if_neg (Nat.not_lt.mpr enough)

theorem State.issueOrWithhold_of_low {s : State} {c : Chain} {g : Option Nat}
    (low : codeBelow g s.context.current.chains[c].minimum = true) (chain tag : Byte) (preq d cls : Nat)
    (factor : Factor) :
    s.issueOrWithhold c chain tag preq d cls factor g = s.withhold c chain tag .belowMin factor cls := by
  cases g with
  | none => rfl
  | some p => exact if_pos (of_decide_eq_true low)

theorem State.isTripped_iff (s : State) (c : Chain) :
    s.thermal.isTripped c = true ↔ s.thermal.chains[c].state = .tripped := by
  rw [ThermalEstimator.isTripped, beq_iff_eq]

/-- What an accepted request on an enabled chain is answered. -/
theorem exec_burstReq_of_enabled {s : State} (running : s.rstHeld = false) {tag duration : Byte} {c : Chain}
    (timed : duration ≠ 0) (room : s.grants.chains[c].opened.length < 2)
    (fresh : ∀ g ∈ s.grants.chains[c].opened, g.tag ≠ tag) (enabled : s.context.current.chains[c].enabled = true)
    (preq : Byte) (desc : Descriptor) {r : RequestResult}
    (decided : s.decision c (toByte c.val) tag preq.toNat (min duration.toNat 64) (s.classify desc).1
      (s.classify desc).2 = r) :
    exec (.burstReq (toByte c.val) tag preq duration desc) s =
      .next (r.state.answerLink 0x01 r.record.bytes) := by
  have accepted := State.refusalOf_eq_none (toByte_chain c) timed room fresh
  rw [exec_burstReq running, State.takeRequest_of_accepted (chainOf_eq_some (toByte_chain c)) accepted, if_pos enabled,
    clampDuration, decided]

theorem State.decision_of_untripped {s : State} {c : Chain} (cool : s.thermal.chains[c].state ≠ .tripped)
    (chain tag : Byte) (preq d : Nat) (cls : Fin 8) (k : ClassEntry) :
    s.decision c chain tag preq d cls k =
      s.issueOrWithhold c chain tag preq d cls.val
        (limitingFactor (s.ceilings c k d) preq k.floor (floorStep (s.ceilings c k d) preq k.floor))
        (floorStep (s.ceilings c k d) preq k.floor).code := by
  rw [State.decision]
  exact if_neg (mt (s.isTripped_iff c).mp cool)

theorem State.decision_of_tripped {s : State} {c : Chain} (hot : s.thermal.chains[c].state = .tripped)
    (chain tag : Byte) (preq d : Nat) (cls : Fin 8) (k : ClassEntry) :
    s.decision c chain tag preq d cls k =
      if k.tripPass ∧ 0 < k.floor then
        s.issueOrWithhold c chain tag preq d cls.val
          (limitingFactor (s.ceilings c k d) preq k.floor (tripPath (s.ceilings c k d) preq k.floor))
          (tripPath (s.ceilings c k d) preq k.floor).code
      else s.withhold c chain tag .trip .thermal cls.val := by
  rw [State.decision]
  exact if_pos ((s.isTripped_iff c).mpr hot)

/-- Settles O16: the candidate is at or above the minimum, or is not. -/
theorem candidateIsGrantedOrWithheld : Obligations.CandidateIsGrantedOrWithheld := by
  unfold Obligations.CandidateIsGrantedOrWithheld
  intro c tag preq duration desc s running timed room fresh enabled cool cls k d l g f e framed
  have decided := State.decision_of_untripped cool (toByte c.val) tag preq.toNat d cls k
  have answered : ∀ {r : RequestResult}, s.issueOrWithhold c (toByte c.val) tag preq.toNat d cls.val f g.code = r →
      exec (.burstReq (toByte c.val) tag preq duration desc) s =
        .next (r.state.answerLink 0x01 r.record.bytes) := fun issue =>
    exec_burstReq_of_enabled running timed room fresh enabled preq desc (decided.trans issue)
  refine ⟨fun p code enough => ?_, fun low => ?_⟩
  · rw [answered ((congrArg _ code).trans (State.issueOrWithhold_of_issued enough _ _ _ _ _ _))]
    simp only [EngineChain.countIssued, decide_eq_true_eq]
    rfl
  · rw [answered (State.issueOrWithhold_of_low low _ _ _ _ _ _)]
    rfl

theorem minCode_some_none (a : Option Nat) : minCode a none = none := by
  cases a <;> rfl

/-- Settles O17: without a pass the chain withholds; with one the trip path's candidate decides. -/
theorem trippedChainNeedsTripPass : Obligations.TrippedChainNeedsTripPass := by
  unfold Obligations.TrippedChainNeedsTripPass
  intro c tag preq duration desc s running timed room fresh enabled hot cls k d l e framed least f
  have decided := State.decision_of_tripped hot (toByte c.val) tag preq.toNat d cls k
  have answered : ∀ {r : RequestResult}, k.tripPass = true ∧ 0 < k.floor →
      s.issueOrWithhold c (toByte c.val) tag preq.toNat d cls.val f least = r →
      exec (.burstReq (toByte c.val) tag preq duration desc) s =
        .next (r.state.answerLink 0x01 r.record.bytes) := fun pass issue =>
    exec_burstReq_of_enabled running timed room fresh enabled preq desc (decided.trans ((if_pos pass).trans issue))
  refine ⟨fun no_pass => ?_, fun h pass floor hard enough => ?_, fun pass floor low => ?_⟩
  · have stuck : ¬(k.tripPass = true ∧ 0 < k.floor) := by
      rintro ⟨pass, floor⟩
      rcases no_pass with off | zero
      · rw [off] at pass
        exact Bool.noConfusion pass
      · omega
    rw [exec_burstReq_of_enabled running timed room fresh enabled preq desc (decided.trans (if_neg stuck))]
    rfl
  · have code : least = some (min (min preq.toNat k.floor) h) := congrArg (minCode _) hard
    intro p
    rw [answered ⟨pass, floor⟩ ((congrArg _ code).trans (State.issueOrWithhold_of_issued enough _ _ _ _ _ _))]
    simp only [EngineChain.countIssued, decide_eq_true_eq]
    rfl
  · have below : codeBelow least s.context.current.chains[c].minimum = true := by
      rcases low with absent | ⟨h, hard, small⟩
      · have code : least = none := (congrArg (minCode _) absent).trans (minCode_some_none _)
        rw [code]
        rfl
      · have code : least = some (min (min preq.toNat k.floor) h) := congrArg (minCode _) hard
        rw [code]
        exact decide_eq_true small
    rw [answered ⟨pass, floor⟩ (State.issueOrWithhold_of_low below _ _ _ _ _ _)]
    rfl

end Sys2Proof.Machine
end

section
/-! Proofs about the seven ceilings, the candidate and the limiting factor (R2, R20 to R31), and what an issued grant
obeys (R27, R30). -/

namespace Sys2Proof.Machine

/-! ### The least of codes (R2) -/

theorem minCode_eq_none_iff {a b : Option Nat} : minCode a b = none ↔ a = none ∨ b = none := by
  cases a <;> cases b <;> simp [minCode]

theorem minCode_eq_some_iff {a b : Option Nat} {x : Nat} :
    minCode a b = some x ↔ ∃ p q : Nat, a = some p ∧ b = some q ∧ x = min p q := by
  cases a <;> cases b <;> simp [minCode, eq_comm]

/-- The least of two codes is one of them. -/
theorem minCode_eq_left_or_right (a b : Option Nat) : minCode a b = a ∨ minCode a b = b := by
  cases a with
  | none => exact .inl rfl
  | some p =>
    cases b with
    | none => exact .inr rfl
    | some q => exact (min_choice p q).imp (congrArg some) (congrArg some)

theorem Ceilings.soft_mem (l : Ceilings) : l.soft = l.th ∨ l.soft = l.sch ∨ l.soft = l.win := by
  rcases minCode_eq_left_or_right (minCode l.th l.sch) l.win with both | win
  · rcases minCode_eq_left_or_right l.th l.sch with th | sch
    · exact .inl (both.trans th)
    · exact .inr (.inl (both.trans sch))
  · exact .inr (.inr win)

theorem Ceilings.hard_mem (l : Ceilings) : l.hard = l.pol ∨ l.hard = l.pool ∨ l.hard = l.mm ∨ l.hard = l.start := by
  rcases minCode_eq_left_or_right (minCode (minCode l.pol l.pool) l.mm) l.start with rest | start
  · rcases minCode_eq_left_or_right (minCode l.pol l.pool) l.mm with both | mm
    · rcases minCode_eq_left_or_right l.pol l.pool with pol | pool
      · exact .inl (rest.trans (both.trans pol))
      · exact .inr (.inl (rest.trans (both.trans pool)))
    · exact .inr (.inr (.inl (rest.trans mm)))
  · exact .inr (.inr (.inr start))

/-! ### The candidate (R27, R28) -/

/-- The candidate before the floor step: the least of the request and the two ceilings (R28). -/
def firstCandidate (l : Ceilings) (preq : Nat) : Option Nat :=
  minCode (minCode (some preq) l.soft) l.hard

theorem firstCandidate_eq_some_iff {l : Ceilings} {preq x : Nat} :
    firstCandidate l preq = some x ↔ ∃ a b : Nat, l.soft = some a ∧ l.hard = some b ∧ x = min (min preq a) b := by
  simp only [firstCandidate, minCode_eq_some_iff, Option.some.injEq]
  constructor
  · rintro ⟨m, b, ⟨p, a, rfl, soft, rfl⟩, hard, rfl⟩
    exact ⟨a, b, soft, hard, rfl⟩
  · rintro ⟨a, b, soft, hard, rfl⟩
    exact ⟨_, b, ⟨preq, a, rfl, soft, rfl⟩, hard, rfl⟩

theorem firstCandidate_eq_none_iff {l : Ceilings} {preq : Nat} :
    firstCandidate l preq = none ↔ l.soft = none ∨ l.hard = none := by
  simp only [firstCandidate, minCode_eq_none_iff, reduceCtorEq, false_or]

theorem floorStep_of_enough {l : Ceilings} {preq floor : Nat}
    (enough : floor = 0 ∨ codeBelow (firstCandidate l preq) (min floor preq) = false) :
    floorStep l preq floor = ⟨firstCandidate l preq, false⟩ := by
  rw [floorStep]
  refine if_neg ?_
  rintro ⟨floored, below⟩
  rcases enough with zero | not_below
  · omega
  · exact Bool.noConfusion (below.symm.trans not_below)

theorem floorStep_of_below {l : Ceilings} {preq floor : Nat} (floored : 0 < floor)
    (below : codeBelow (firstCandidate l preq) (min floor preq) = true) :
    floorStep l preq floor =
      ⟨minCode (some (min floor preq)) l.hard, minCode (some (min floor preq)) l.hard != firstCandidate l preq⟩ := by
  rw [floorStep]
  exact if_pos ⟨floored, below⟩

theorem floorStep_cases (l : Ceilings) (preq floor : Nat) :
    floorStep l preq floor = ⟨firstCandidate l preq, false⟩ ∨
      (codeBelow (firstCandidate l preq) (min floor preq) = true ∧ floorStep l preq floor =
        ⟨minCode (some (min floor preq)) l.hard, minCode (some (min floor preq)) l.hard != firstCandidate l preq⟩) := by
  by_cases enough : floor = 0 ∨ codeBelow (firstCandidate l preq) (min floor preq) = false
  · exact .inl (floorStep_of_enough enough)
  · obtain ⟨nonzero, below⟩ := not_or.mp enough
    rw [Bool.not_eq_false] at below
    exact .inr ⟨below, floorStep_of_below (Nat.pos_of_ne_zero nonzero) below⟩

theorem codeBelow_some_iff {a n : Nat} : codeBelow (some a) n = true ↔ a < n := decide_eq_true_iff

/-- The floor step never lowers a candidate. -/
theorem floorStep_ge {l : Ceilings} {preq floor a : Nat} (first : firstCandidate l preq = some a) :
    ∃ b : Nat, (floorStep l preq floor).code = some b ∧ a ≤ b := by
  obtain same | ⟨below, lifted⟩ := floorStep_cases l preq floor
  · exact ⟨a, by rw [same, first], Nat.le_refl a⟩
  · obtain ⟨x, h, -, hard, rfl⟩ := firstCandidate_eq_some_iff.mp first
    rw [first, codeBelow_some_iff] at below
    refine ⟨min (min floor preq) h, by rw [lifted, hard]; rfl, ?_⟩
    omega

/-- A candidate keeps within the request and the hard ceiling. -/
theorem floorStep_le {l : Ceilings} {preq floor b : Nat} (code : (floorStep l preq floor).code = some b) :
    b ≤ preq ∧ ∃ h : Nat, l.hard = some h ∧ b ≤ h := by
  obtain same | ⟨-, lifted⟩ := floorStep_cases l preq floor
  · rw [same] at code
    obtain ⟨x, h, -, hard, rfl⟩ := firstCandidate_eq_some_iff.mp code
    exact ⟨by omega, h, hard, by omega⟩
  · rw [lifted] at code
    obtain ⟨p, h, same, hard, rfl⟩ := minCode_eq_some_iff.mp code
    cases same
    exact ⟨by omega, h, hard, by omega⟩

/-! ### The limiting factor (R31) -/

/-- The ceilings with their factors, in the order of R31. -/
def Ceilings.inOrder (l : Ceilings) : List (Option Nat × Factor) :=
  [(l.pol, .policy), (l.pool, .pool), (l.mm, .mismatch), (l.start, .startup), (l.th, .thermal), (l.sch, .schedule),
    (l.win, .window)]

/-- Some ceiling equals the candidate. -/
def Ceilings.Meets (l : Ceilings) (code : Option Nat) : Prop :=
  code = l.pol ∨ code = l.pool ∨ code = l.mm ∨ code = l.start ∨ code = l.th ∨ code = l.sch ∨ code = l.win

/-- The candidate's own code names a ceiling unless it is the request's or the floor's. -/
theorem meets_of_candidate {l : Ceilings} {preq floor : Nat} {x : Candidate}
    (candidate : x = floorStep l preq floor ∨ x = tripPath l preq floor) (reduced : x.code ≠ some preq)
    (unfloored : ¬(x.byFloor = true ∧ x.code = some floor)) : l.Meets x.code := by
  have of_hard : x.code = l.hard → l.Meets x.code := fun hard => by
    rw [hard]
    rcases l.hard_mem with h | h | h | h <;> rw [Ceilings.Meets, h] <;> tauto
  have of_soft : x.code = l.soft → l.Meets x.code := fun soft => by
    rw [soft]
    rcases l.soft_mem with h | h | h <;> rw [Ceilings.Meets, h] <;> tauto
  have of_first : x.code = firstCandidate l preq → l.Meets x.code := fun first => by
    rcases minCode_eq_left_or_right (minCode (some preq) l.soft) l.hard with rest | hard
    · rcases minCode_eq_left_or_right (some preq) l.soft with request | soft
      · exact absurd (first.trans (rest.trans request)) reduced
      · exact of_soft (first.trans (rest.trans soft))
    · exact of_hard (first.trans hard)
  have of_floor : x.byFloor = true → x.code = minCode (some (min floor preq)) l.hard → l.Meets x.code :=
    fun by_floor code => by
      rcases minCode_eq_left_or_right (some (min floor preq)) l.hard with low | hard
      · rcases min_choice floor preq with at_floor | at_preq
        · rw [at_floor] at low code
          exact absurd ⟨by_floor, code.trans low⟩ unfloored
        · rw [at_preq] at low code
          exact absurd (code.trans low) reduced
      · exact of_hard (code.trans hard)
  rcases candidate with rfl | rfl
  · obtain same | ⟨-, lifted⟩ := floorStep_cases l preq floor
    · exact of_first (by rw [same])
    · cases by_floor : (floorStep l preq floor).byFloor
      · refine of_first ?_
        rw [lifted] at by_floor ⊢
        simpa using by_floor
      · exact of_floor by_floor (by rw [lifted])
  · exact of_floor rfl (by rw [tripPath, min_comm])

/-- The factor is the first ceiling that equals the candidate. -/
theorem limitingFactor_first {l : Ceilings} {preq floor : Nat} {x : Candidate} (meets : l.Meets x.code)
    (reduced : x.code ≠ some preq) (unfloored : ¬(x.byFloor = true ∧ x.code = some floor)) :
    ∃ before after : List (Option Nat × Factor),
      l.inOrder = before ++ (x.code, limitingFactor l preq floor x) :: after ∧ ∀ y ∈ before, y.1 ≠ x.code := by
  rw [limitingFactor, if_neg reduced, if_neg unfloored]
  by_cases pol : x.code = l.pol
  · exact ⟨[], _, by rw [if_pos pol, pol]; rfl, by simp⟩
  rw [if_neg pol]
  by_cases pool : x.code = l.pool
  · exact ⟨[(l.pol, .policy)], _, by rw [if_pos pool, pool]; rfl, by simp [Ne.symm pol]⟩
  rw [if_neg pool]
  by_cases mm : x.code = l.mm
  · exact ⟨[(l.pol, .policy), (l.pool, .pool)], _, by rw [if_pos mm, mm]; rfl, by simp [Ne.symm pol, Ne.symm pool]⟩
  rw [if_neg mm]
  by_cases start : x.code = l.start
  · exact ⟨[(l.pol, .policy), (l.pool, .pool), (l.mm, .mismatch)], _, by rw [if_pos start, start]; rfl,
      by simp [Ne.symm pol, Ne.symm pool, Ne.symm mm]⟩
  rw [if_neg start]
  by_cases th : x.code = l.th
  · exact ⟨[(l.pol, .policy), (l.pool, .pool), (l.mm, .mismatch), (l.start, .startup)], _,
      by rw [if_pos th, th]; rfl, by simp [Ne.symm pol, Ne.symm pool, Ne.symm mm, Ne.symm start]⟩
  rw [if_neg th]
  by_cases sch : x.code = l.sch
  · exact ⟨[(l.pol, .policy), (l.pool, .pool), (l.mm, .mismatch), (l.start, .startup), (l.th, .thermal)], _,
      by rw [if_pos sch, sch]; rfl, by simp [Ne.symm pol, Ne.symm pool, Ne.symm mm, Ne.symm start, Ne.symm th]⟩
  have win : x.code = l.win := by
    rw [Ceilings.Meets] at meets
    tauto
  exact ⟨[(l.pol, .policy), (l.pool, .pool), (l.mm, .mismatch), (l.start, .startup), (l.th, .thermal),
    (l.sch, .schedule)], [], by rw [if_neg sch, win]; rfl,
    by simp [Ne.symm pol, Ne.symm pool, Ne.symm mm, Ne.symm start, Ne.symm th, Ne.symm sch]⟩

/-- Settles O19: the two groups, the candidate with its floor step, and the factor. -/
theorem candidateHasALimitingCeiling : Obligations.CandidateHasALimitingCeiling := by
  unfold Obligations.CandidateHasALimitingCeiling
  intro l preq floor first g
  refine ⟨fun a b c th sch win => ?_, fun absent => ?_, fun a b c d pol pool mm start => ?_, fun absent => ?_,
    fun a b soft hard => firstCandidate_eq_some_iff.mpr ⟨a, b, soft, hard, rfl⟩, firstCandidate_eq_none_iff.mpr,
    fun zero => floorStep_of_enough (.inl zero), fun a code enough => floorStep_of_enough (.inr ?_),
    fun floored low => ⟨fun absent => ?_, fun h hard => ?_⟩, fun a code => floorStep_ge code,
    fun b code => floorStep_le code, fun h hard => ?_, fun absent => ?_, fun x candidate => ?_⟩
  · rw [Ceilings.soft, th, sch, win]
    rfl
  · rw [Ceilings.soft, minCode_eq_none_iff, minCode_eq_none_iff, or_assoc]
    exact absent
  · rw [Ceilings.hard, pol, pool, mm, start]
    rfl
  · rw [Ceilings.hard, minCode_eq_none_iff, minCode_eq_none_iff, minCode_eq_none_iff, or_assoc, or_assoc]
    exact absent
  · change firstCandidate l preq = some a at code
    rw [code]
    exact decide_eq_false enough.not_gt
  · have none_first : firstCandidate l preq = none := firstCandidate_eq_none_iff.mpr (.inr absent)
    have below : codeBelow (firstCandidate l preq) (min floor preq) = true := by
      rw [none_first]
      rfl
    have lifted := floorStep_of_below floored below
    rw [none_first, absent] at lifted
    exact lifted
  · have below : codeBelow (firstCandidate l preq) (min floor preq) = true := by
      rcases low with none_first | ⟨a, some_first, small⟩
      · exact (congrArg (codeBelow · _) none_first).trans rfl
      · exact (congrArg (codeBelow · _) some_first).trans (decide_eq_true small)
    have lifted := floorStep_of_below floored below
    change g = _ at lifted
    rw [lifted, hard]
    exact ⟨rfl, bne_iff_ne⟩
  · rw [tripPath, hard]
    rfl
  · rw [tripPath, absent]
    rfl
  · refine ⟨fun request => if_pos request, fun reduced by_floor at_floor => ?_, fun reduced unfloored => ?_⟩
    · exact (if_neg reduced).trans (if_pos ⟨by_floor, at_floor⟩)
    · exact limitingFactor_first (meets_of_candidate candidate reduced unfloored) reduced unfloored

end Sys2Proof.Machine
end

section
/-! Proofs about the figures the ceilings are formed from (R20 to R25, R84) and about what a grant that opens obeys
(R27, R30). -/

namespace Sys2Proof.Machine

/-! ### The seven ceilings -/

theorem ThermalChain.backoff_of_warm {t : ThermalChain} (hot : t.state = .warm ∨ t.state = .tripped) :
    t.backoff =
      (max 0 (min 127 (((t.estimate - t.coeffs.knee) * t.coeffs.slope) / 256))).toNat := by
  rw [ThermalChain.backoff, shiftRight_eq_div]
  rcases hot with state | state <;> rw [state] <;> rfl

theorem BackoffSequencer.given_of_inRun {q : BackoffSequencer} (active : q.InRun) : q.given = (q.b, q.current.mask) := by
  rw [BackoffSequencer.given]
  rcases active with state | state | state <;> rw [state]

theorem BackoffSequencer.given_of_not_inRun {q : BackoffSequencer} (still : ¬ q.InRun) : q.given = (0, 0) := by
  rw [BackoffSequencer.given]
  cases state : q.state with
  | idle => rfl
  | starting => rfl
  | running => exact absurd (.inl state) still
  | frozen => exact absurd (.inr (.inl state)) still
  | holding => exact absurd (.inr (.inr state)) still

theorem linv_none {x : Int} (small : x < 1) : linv x = none :=
  (linv_eq_none_iff x).mpr small

/-- Settles O20, ceiling by ceiling. -/
theorem ceilingsAreFormedFromTheFigures : Obligations.CeilingsAreFormedFromTheFigures := by
  unfold Obligations.CeilingsAreFormedFromTheFigures
  intro s c k d l x t q remaining
  have given_code : s.scheduleCeiling c k =
      if (s.sequencer.given.2.getLsbD c.val && !k.exempt) = true then x.ceiling - s.sequencer.given.1 else 255 := rfl
  refine ⟨rfl, fun normal => ?_, fun hot => ?_, fun unknown => ?_, fun active masked bound => ?_, fun free => ?_,
    fun used_up => ?_, rfl, fun full => linv_none (by omega), fun room => ?_, fun mismatched => ?_, fun clear => ?_,
    fun loading => ?_, fun ready => ?_⟩
  · have none_off : t.backoff = 0 := by rw [ThermalChain.backoff, normal]
    exact congrArg (fun b => some (x.ceiling - b)) none_off
  · exact congrArg (fun b => some (x.ceiling - b)) (ThermalChain.backoff_of_warm hot)
  · have most_off : t.backoff = 127 := by rw [ThermalChain.backoff, unknown]
    exact congrArg (fun b => some (x.ceiling - b)) most_off
  · have given : s.sequencer.given = (q.b, q.current.mask) := BackoffSequencer.given_of_inRun active
    have limited : (q.current.mask.getLsbD c.val && !k.exempt) = true := by
      rw [bound]
      exact (Bool.and_true _).trans masked
    rw [given] at given_code
    exact congrArg some (given_code.trans (if_pos limited))
  · refine congrArg some (given_code.trans (if_neg ?_))
    rw [Bool.and_eq_true, Bool.not_eq_true']
    rintro ⟨masked, bound⟩
    by_cases active : q.InRun
    · have given : s.sequencer.given = (q.b, q.current.mask) := BackoffSequencer.given_of_inRun active
      rw [given] at masked
      rcases free with still | unmasked | exempt
      · exact still active
      · exact Bool.noConfusion (masked.symm.trans unmasked)
      · exact Bool.noConfusion (bound.symm.trans exempt)
    · have given : s.sequencer.given = (0, 0) := BackoffSequencer.given_of_not_inRun active
      rw [given] at masked
      simp at masked
  · have empty : ((s.remaining c * 64 / d : Nat) : Int) = 0 := by
      have none_left : s.remaining c = 0 := used_up
      simp [none_left]
    exact (congrArg linv empty).trans (linv_none (by decide))
  · exact congrArg linv (by omega)
  · exact congrArg some (if_pos mismatched)
  · have uncapped : s.mismatch.chains[c].state ≠ .mismatched := by
      rw [clear]
      decide
    exact congrArg some (if_neg uncapped)
  · exact congrArg some (if_pos (s.isLoading_iff.mpr loading))
  · exact congrArg some (if_neg (by simp [s.isLoading_eq_false_iff.mpr ready]))

/-! ### What an issued grant obeys -/

/-- The hard ceiling is at or below each of its members. -/
theorem Ceilings.hard_le {l : Ceilings} {h : Nat} (hard : l.hard = some h) :
    (∃ a, l.pol = some a ∧ h ≤ a) ∧ (∃ a, l.pool = some a ∧ h ≤ a) ∧ (∃ a, l.mm = some a ∧ h ≤ a) ∧
      ∃ a, l.start = some a ∧ h ≤ a := by
  obtain ⟨_, start, first_three, hs, rfl⟩ := minCode_eq_some_iff.mp hard
  obtain ⟨_, mm, first_two, hm, rfl⟩ := minCode_eq_some_iff.mp first_three
  obtain ⟨pol, pool, hp, hl, rfl⟩ := minCode_eq_some_iff.mp first_two
  exact ⟨⟨pol, hp, by omega⟩, ⟨pool, hl, by omega⟩, ⟨mm, hm, by omega⟩, ⟨start, hs, by omega⟩⟩

theorem tripPath_le {l : Ceilings} {preq floor b : Nat} (code : (tripPath l preq floor).code = some b) :
    b ≤ preq ∧ ∃ h : Nat, l.hard = some h ∧ b ≤ h := by
  obtain ⟨p, h, same, hard, rfl⟩ := minCode_eq_some_iff.mp code
  cases same
  exact ⟨by omega, h, hard, by omega⟩

/-- What a decision that opens a record has found: the code within request and hard ceiling and at or above the
minimum, and on a TRIPPED chain a class with the pass. -/
theorem State.decision_opens {s : State} {c : Chain} {chain tag : Byte} {preq d : Nat} {cls : Fin 8} {k : ClassEntry} :
    (s.decision c chain tag preq d cls k).state.grants = s.grants ∨
    ∃ p h : Nat, (s.decision c chain tag preq d cls k).state.grants = (s.openGrant c (s.newGrant tag p d)).grants ∧
      p ≤ preq ∧ (s.ceilings c k d).hard = some h ∧ p ≤ h ∧ s.context.current.chains[c].minimum ≤ p ∧
      (s.thermal.chains[c].state = .tripped → k.tripPass = true ∧ 0 < k.floor) := by
  obtain withheld | ⟨factor, g, path, issued⟩ := s.decision_cases c chain tag preq d cls k
  · exact .inl (by rw [withheld]; rfl)
  · rw [issued]
    obtain ⟨-, low⟩ | ⟨p, code, enough, opened⟩ := s.issueOrWithhold_cases c chain tag preq d cls.val factor g.code
    · exact .inl (by rw [low]; rfl)
    · obtain ⟨-, pass, floor, rfl⟩ | ⟨rfl, cool⟩ := path
      · obtain ⟨within, h, hard, below⟩ := tripPath_le code
        exact .inr ⟨p, h, by rw [opened]; rfl, within, hard, below, enough, fun _ => ⟨pass, floor⟩⟩
      · obtain ⟨within, h, hard, below⟩ := floorStep_le code
        refine .inr ⟨p, h, by rw [opened]; rfl, within, hard, below, enough, fun hot => ?_⟩
        rw [(s.isTripped_iff c).mpr hot] at cool
        exact Bool.noConfusion cool

/-- A request that opens a record on a chain was decided on that chain. -/
theorem State.takeRequest_opens {s : State} {c : Chain} {tag : Byte} {preq d : Nat} {desc : Descriptor}
    (opens : (s.takeRequest (toByte c.val) tag preq d desc).state.grants ≠ s.grants) :
    s.takeRequest (toByte c.val) tag preq d desc =
      s.decision c (toByte c.val) tag preq d (s.classify desc).1 (s.classify desc).2 := by
  cases refusal : s.refusalOf (toByte c.val) tag d with
  | some code =>
    rw [State.takeRequest_of_refused refusal] at opens
    exact absurd rfl opens
  | none =>
    have taken := State.takeRequest_of_accepted (chainOf_eq_some (toByte_chain c)) refusal preq desc
    rw [taken] at opens ⊢
    by_cases enabled : s.context.current.chains[c].enabled = true
    · exact if_pos enabled
    · rw [if_neg enabled] at opens
      exact absurd rfl opens

/-- The list and the pool sum after a record is opened on a chain (R39, R41). -/
theorem State.openGrant_grows (s : State) (c : Chain) (r : OpenGrant) :
    (s.openGrant c r).grants.chains[c].opened = s.grants.chains[c].opened ++ [r] ∧
      (s.openGrant c r).grants.poolSum = s.grants.poolSum + r.power := by
  rw [State.openGrant_grants]
  refine ⟨?_, rfl⟩
  change ((s.grants.chains.set c _)[c]).opened = _
  rw [getElem_set_fin, if_pos rfl]
  rfl

/-- A power code at or below the pool ceiling fits into what the pool has left (R6, R24). -/
theorem linearPower_le_of_le_linv {x : Int} {p q : Nat} (ceiling : linv x = some q) (below : p ≤ q) :
    (linearPower p : Int) ≤ x := by
  obtain ⟨⟨-, fits⟩, -⟩ := linv_eq_some_iff.mp ceiling
  have order : linearPower p ≤ linearPower q := linearPower_monotone below
  omega

/-- Settles O18: a record that opens was decided at a code within the hard ceiling, whose members are these. -/
theorem issuedGrantsObeyTheCeilings : Obligations.IssuedGrantsObeyTheCeilings := by
  unfold Obligations.IssuedGrantsObeyTheCeilings
  intro c tag preq duration desc s t next longer
  cases held : s.rstHeld with
  | true =>
    rw [exec, execBurstReq, State.unlessHeld_held held] at next
    cases next
    omega
  | false =>
    have supply : t.supply = s.supply := exec_untouched (p := .supply) next (by simp [touched])
    rw [exec_burstReq held] at next
    have grants : t.grants =
        (s.takeRequest (toByte c.val) tag preq.toNat (clampDuration duration.toNat) desc).state.grants := by
      cases next
      rfl
    have opens : (s.takeRequest (toByte c.val) tag preq.toNat (clampDuration duration.toNat) desc).state.grants ≠
        s.grants := fun same => by
      rw [grants, same] at longer
      omega
    rw [State.takeRequest_opens opens] at grants opens
    obtain same | ⟨p, h, opened, within, hard, below, enough, hot⟩ := State.decision_opens (s := s) (c := c)
      (chain := toByte c.val) (tag := tag) (preq := preq.toNat) (d := clampDuration duration.toNat)
      (cls := (s.classify desc).1) (k := (s.classify desc).2)
    · exact absurd same opens
    · obtain ⟨⟨pol, hpol, ltPol⟩, ⟨pool, hpool, ltPool⟩, ⟨mm, hmm, ltMm⟩, start, hstart, ltStart⟩ :=
        Ceilings.hard_le hard
      obtain ⟨list, sum⟩ := s.openGrant_grows c (s.newGrant tag p (clampDuration duration.toNat))
      have fits := linearPower_le_of_le_linv hpool (below.trans ltPool)
      rw [grants, opened, supply, list, sum]
      refine ⟨⟨_, rfl, within, ?_, ⟨pool, hpool, below.trans ltPool⟩, fun mismatched => ?_, fun loading => ?_, enough⟩,
        ?_, hot⟩
      · cases hpol
        exact below.trans ltPol
      · have cap : s.mismatchCeiling c = s.mismatch.settings.cap := if_pos mismatched
        cases hmm
        exact cap ▸ below.trans ltMm
      · have built : s.startCeiling = 160 := if_pos (s.isLoading_iff.mpr loading)
        cases hstart
        exact built ▸ below.trans ltStart
      · change s.grants.poolSum + linearPower p ≤ s.supply.limit
        omega

end Sys2Proof.Machine
end

section
/-! Proofs about the layouts of the answers and the encodings of the names (12.3, 12.4.2, 12.4.4, 12.4.5). -/

namespace Sys2Proof.Machine

/-! ### Where a segment of a concatenation stands -/

/-- What follows a segment of known length. -/
theorem drop_past_segment {l seg rest : List Byte} {n k : Nat} (place : l.drop n = seg ++ rest) (len : seg.length = k) :
    l.drop (n + k) = rest := by
  rw [← List.drop_drop, place, List.drop_left' len]

/-- A segment of known length. -/
theorem take_segment {l seg rest : List Byte} {n k : Nat} (place : l.drop n = seg ++ rest) (len : seg.length = k) :
    (l.drop n).take k = seg := by
  rw [place, List.take_left' len]

theorem length_flatMap_of_uniform {α : Type} {f : α → List Byte} {k : Nat} (uniform : ∀ x, (f x).length = k)
    (xs : List α) : (xs.flatMap f).length = k * xs.length := by
  induction xs with
  | nil => rfl
  | cons x xs ih => rw [List.flatMap_cons, List.length_append, uniform, ih, List.length_cons, Nat.mul_add_one, Nat.add_comm]

/-- Entry `i` of a table laid out in entries of `k` bytes. -/
theorem entry_of_flatMap {α : Type} {f : α → List Byte} {k : Nat} (uniform : ∀ x, (f x).length = k) (xs : List α)
    (rest : List Byte) : ∀ (i : Nat) (h : i < xs.length),
    ((xs.flatMap f ++ rest).drop (k * i)).take k = f xs[i] := by
  induction xs with
  | nil => exact fun i h => absurd h (Nat.not_lt_zero i)
  | cons x xs ih =>
    intro i h
    rw [List.flatMap_cons, List.append_assoc]
    cases i with
    | zero => exact List.take_left' (uniform x)
    | succ i =>
      rw [Nat.mul_add_one, Nat.add_comm, ← List.drop_drop, List.drop_left' (uniform x)]
      exact ih i (Nat.lt_of_succ_lt_succ h)

/-- The entry of a `Vector` laid out from place `n` of an answer. -/
theorem entry_of_table {α : Type} {m : Nat} {f : α → List Byte} {k n : Nat} {l rest : List Byte} {v : Vector α m}
    (uniform : ∀ x, (f x).length = k) (place : l.drop n = v.toList.flatMap f ++ rest) (i : Fin m) :
    (l.drop (n + k * i.val)).take k = f v[i] := by
  have inside : i.val < v.toList.length := by rw [Vector.length_toList]; exact i.isLt
  rw [← List.drop_drop, place, entry_of_flatMap uniform v.toList rest i.val inside, Vector.getElem_toList]
  rfl

/-! ### The Burst Link's answers, the chain report, the context and the event records -/

theorem Context.bytes_layout (x : Context) :
    x.bytes.length = 37 ∧ (∀ c : Chain, (x.bytes.drop (8 * c.val)).take 8 = x.chains[c].bytes) ∧
      x.bytes.drop 32 = toBytes x.poolLimit 3 ++ [toByte x.lifetime, toByte x.triggers.toNat] :=
  ⟨rfl, fun
    | 0 => rfl
    | 1 => rfl
    | 2 => rfl
    | 3 => rfl, rfl⟩

theorem EventRecord.bytes_length (r : EventRecord) : r.bytes.length = 2 := rfl

theorem EventLatch.bytes_layout (e : EventLatch) :
    e.bytes.length = 21 ∧ (∀ i : Fin 9, (e.bytes.drop (2 * i.val)).take 2 = e.records[i].bytes) ∧
      e.bytes.drop 18 = toBytes e.alertMask.toNat 2 ++ [toByte (latchCode e.latch)] := by
  have place : e.bytes.drop 0 = e.records.toList.flatMap EventRecord.bytes ++
      (toBytes e.alertMask.toNat 2 ++ [toByte (latchCode e.latch)]) := List.append_assoc _ _ _
  have records : (e.records.toList.flatMap EventRecord.bytes).length = 18 := by
    rw [length_flatMap_of_uniform EventRecord.bytes_length, Vector.length_toList]
  refine ⟨?_, fun i => ?_, drop_past_segment place records⟩
  · change (e.bytes.drop 0).length = 21
    rw [place, List.length_append, records]
    rfl
  · have entry := entry_of_table EventRecord.bytes_length place i
    rwa [Nat.zero_add] at entry

/-! ### The READ_STATUS data -/

theorem SensorRecord.bytes_length (r : SensorRecord) : r.bytes.length = 3 := rfl

theorem MismatchChain.bytes_length (m : MismatchChain) : m.bytes.length = 3 := rfl

theorem BackoffSequencer.runBytes_length (q : BackoffSequencer) : q.runBytes.length = 3 := by
  rw [BackoffSequencer.runBytes]
  split <;> rfl

theorem pendingBytes_length (r : Option RunParams) : (pendingBytes r).length = 4 := by
  cases r <;> rfl

/-- The first five bytes of the data: the loader's and the board record's. -/
def State.statusHead (s : State) : List Byte :=
  [toByte s.loader.load.code, toByte s.loader.image.code] ++ toSignedBytes s.thermal.board.temp
    ++ [toByte (flagWeight s.thermal.board.pinned 1 + flagWeight s.thermal.board.onFallback 2)]

/-- The sequencer's bytes before the run parameters. -/
def BackoffSequencer.stateBytes (q : BackoffSequencer) : List Byte :=
  [toByte q.state.code, toByte (rememberedCode q.remembered), toByte q.step.val, toByte q.b, toByte q.k]
    ++ toBytes q.runCount 2 ++ [toByte q.repeatsLeft, toByte q.holdCount]

/-- The bytes from the frame to the pool sum. -/
def State.poolBytes (s : State) : List Byte :=
  [toByte (flagWeight s.sequencer.frame 1)] ++ s.supply.bytes ++ toBytes s.grants.poolSum 4

theorem State.statusBytes_segments (s : State) :
    s.statusBytes = s.statusHead ++ (s.scanner.inputs.toList.flatMap SensorRecord.bytes ++
      (s.classifier.matchers.toList.map (fun m => toByte m.state.code) ++ (s.sequencer.stateBytes ++
        (s.sequencer.runBytes ++ (pendingBytes s.sequencer.pendingStart ++ (s.poolBytes ++
          (s.mismatch.chains.toList.flatMap MismatchChain.bytes ++ [toByte s.context.stack.length]))))))) := by
  simp only [State.statusBytes, State.statusHead, BackoffSequencer.bytes, BackoffSequencer.stateBytes, State.poolBytes,
    List.append_assoc]

/-- Every segment of the READ_STATUS data at its place. -/
theorem State.statusBytes_places (s : State) :
    s.statusBytes.length = 67 ∧ s.statusBytes.take 5 = s.statusHead ∧
    (∃ rest, s.statusBytes.drop 5 = s.scanner.inputs.toList.flatMap SensorRecord.bytes ++ rest) ∧
    (∃ rest, s.statusBytes.drop 20 = s.classifier.matchers.toList.map (fun m => toByte m.state.code) ++ rest) ∧
    (s.statusBytes.drop 26).take 9 = s.sequencer.stateBytes ∧
    (s.statusBytes.drop 35).take 3 = s.sequencer.runBytes ∧
    (s.statusBytes.drop 38).take 4 = pendingBytes s.sequencer.pendingStart ∧
    (s.statusBytes.drop 42).take 12 = s.poolBytes ∧
    (∃ rest, s.statusBytes.drop 54 = s.mismatch.chains.toList.flatMap MismatchChain.bytes ++ rest) ∧
    s.statusBytes.drop 66 = [toByte s.context.stack.length] := by
  have head : s.statusBytes.drop 0 = _ := s.statusBytes_segments
  have sensors := drop_past_segment head (k := 5) rfl
  have matchers := drop_past_segment sensors (k := 15) (by
    rw [length_flatMap_of_uniform SensorRecord.bytes_length, Vector.length_toList])
  have sequencer := drop_past_segment matchers (k := 6) (by rw [List.length_map, Vector.length_toList])
  have run := drop_past_segment sequencer (k := 9) rfl
  have waiting := drop_past_segment run s.sequencer.runBytes_length
  have pool := drop_past_segment waiting (pendingBytes_length _)
  have mismatch := drop_past_segment pool (k := 12) rfl
  have last := drop_past_segment mismatch (k := 12) (by
    rw [length_flatMap_of_uniform MismatchChain.bytes_length, Vector.length_toList])
  refine ⟨?_, take_segment head rfl, ⟨_, sensors⟩, ⟨_, matchers⟩, take_segment sequencer rfl,
    take_segment run s.sequencer.runBytes_length, take_segment waiting (pendingBytes_length _), take_segment pool rfl,
    ⟨_, mismatch⟩, last⟩
  have left : s.statusBytes.length - 66 = 1 := by
    rw [← List.length_drop]
    exact congrArg List.length last
  omega

theorem BackoffSequencer.stateBytes_eq (q : BackoffSequencer) :
    q.stateBytes = [toByte q.state.code, toByte (rememberedCode q.remembered), toByte q.step.val, toByte q.b,
      toByte q.k, toByte (q.runCount / 256 ^ 1), toByte (q.runCount / 256 ^ 0), toByte q.repeatsLeft,
      toByte q.holdCount] := rfl

/-- The byte at place `20 + i` is matcher `i`'s. -/
theorem State.statusBytes_matcher (s : State) (i : Fin 6) :
    s.statusBytes[20 + i.val]? = some (toByte s.classifier.matchers[i].state.code) := by
  obtain ⟨-, -, -, ⟨rest, place⟩, -⟩ := s.statusBytes_places
  have inside : i.val < (s.classifier.matchers.toList.map fun m => toByte m.state.code).length := by
    rw [List.length_map, Vector.length_toList]
    exact i.isLt
  rw [← List.getElem?_drop, place, List.getElem?_append_left inside, List.getElem?_eq_getElem inside, List.getElem_map,
    Vector.getElem_toList]
  rfl

theorem State.chainReport_eq (s : State) (c : Chain) :
    s.chainReport c =
      toSignedBytes s.thermal.chains[c].estimate ++
        [toByte (flagWeight s.thermal.chains[c].pinned 1
            + flagWeight (s.windows.chains[c].ring.any fun b => b.pinned) 2
            + flagWeight (decide (s.mismatch.chains[c].state = .mismatched)) 4),
          toByte s.thermal.chains[c].state.code] ++
        toBytes s.windows.chains[c].sum 5 ++ toBytes s.grants.chains[c].reserved 3 ++ toBytes (s.remaining c) 5 ++
        [toByte s.grants.chains[c].opened.length, toByte s.windows.chains[c].residue] ++
        toBytes s.engine[c].issued 2 ++ toBytes s.engine[c].reduced 2 ++ toBytes s.engine[c].withheld 2 ++
        toBytes s.grants.chains[c].lateCloses 2 ++ [toByte s.engine[c].lastFactor.code] := by
  rw [State.chainReport, beq_eq_decide]
  rfl

theorem GrantTable.countsByte_eq (g : GrantTable) :
    g.countsByte = toByte (1 * g.chains[(0 : Chain)].opened.length + 4 * g.chains[(1 : Chain)].opened.length +
      16 * g.chains[(2 : Chain)].opened.length + 64 * g.chains[(3 : Chain)].opened.length) := by
  rw [Nat.one_mul]
  rfl

/-- Settles O5, answer by answer. -/
theorem answersHaveTheirLayout : Obligations.AnswersHaveTheirLayout := by
  unfold Obligations.AnswersHaveTheirLayout
  intro byte flag signed
  refine ⟨fun r => rfl, fun r c t => rfl, fun n => rfl, fun s c => ?_, fun x => x.bytes_layout, fun e => ?_, fun s => ?_,
    rfl, rfl, rfl, rfl, rfl, rfl, rfl, rfl, rfl, rfl, rfl, rfl, rfl, rfl, rfl⟩
  case refine_1 => exact s.chainReport_eq c
  case refine_2 =>
    obtain ⟨length, records, tail⟩ := e.bytes_layout
    refine ⟨length, records, tail.trans ?_⟩
    cases e.latch with
    | none => rfl
    | some kind => cases kind <;> rfl
  case refine_3 =>
    obtain ⟨length, head, ⟨_, sensors⟩, -, state, run, waiting, pool, ⟨_, mismatch⟩, last⟩ := s.statusBytes_places
    refine ⟨?_, length, head, entry_of_table SensorRecord.bytes_length sensors, s.statusBytes_matcher,
      state.trans ?_, fun idle => run.trans (if_pos idle), fun active => run.trans (if_neg active), fun none_left => ?_,
      fun r start => ?_, pool.trans ?_, entry_of_table MismatchChain.bytes_length mismatch, ?_⟩
    · rw [State.linkStatus, GrantTable.countsByte_eq, BackoffSequencer.given]
      cases s.sequencer.state <;> rfl
    · rw [BackoffSequencer.stateBytes_eq]
      cases s.sequencer.remembered with
      | none => rfl
      | some state => cases state <;> rfl
    · rw [waiting, none_left]
      rfl
    · rw [waiting, start]
      rfl
    · rw [State.poolBytes, SupplyPool.bytes, SupplyPool.target]
      cases s.supply.critLine.taken <;> cases s.supply.warnLine.taken <;> rfl
    · exact (List.getElem?_drop (i := 66) (j := 0)).symm.trans (congrArg (·[0]?) last)

end Sys2Proof.Machine
end

section
/-! Proofs about the image's tests and about what a load completion applies and raises (R178, R180, R181). -/

namespace Sys2Proof.Machine

/-! ### The tests of the image -/

theorem judgeImage_eq_ite (flash : List Word16) :
    judgeImage flash =
      if flashWord flash 0 = 0xA410 ∧ flashWord flash 1 = 254 ∧ imageSum flash = 0 then
        parseContents (contentBytes flash) else none := by
  unfold judgeImage
  split_ifs <;> simp_all

theorem imageSum_eq (flash : List Word16) :
    imageSum flash = ((List.range 254).map fun i => (flashWord flash i).toNat).sum % 65536 := by
  rw [imageSum, imageWords, List.map_map]
  rfl

theorem word_bytes (w : Word16) :
    [w.extractLsb' 8 8, w.extractLsb' 0 8] = [toByte (w.toNat / 256), toByte (w.toNat % 256)] := by
  rw [toByte_mod_256]
  refine congrArg₂ (fun x y => [x, y]) (BitVec.eq_of_toNat_eq ?_) (BitVec.eq_of_toNat_eq ?_) <;>
    simp [toByte, BitVec.toNat_ofNat, Nat.shiftRight_eq_div_pow]

/-- The contents area is the words 2 to 252 of the image. -/
theorem contentWords_eq (flash : List Word16) :
    ((imageWords flash).drop 2).take 251 = (List.range 251).map fun i => flashWord flash (i + 2) := by
  refine List.ext_getElem (by simp [imageWords]) fun i inside _ => ?_
  simp [imageWords, Nat.add_comm]

theorem contentBytes_layout (flash : List Word16) :
    (contentBytes flash).length = 502 ∧
      ∀ i : Fin 251, ((contentBytes flash).drop (2 * i.val)).take 2 =
        [toByte ((flashWord flash (i.val + 2)).toNat / 256), toByte ((flashWord flash (i.val + 2)).toNat % 256)] := by
  have uniform : ∀ w : Word16, [w.extractLsb' 8 8, w.extractLsb' 0 8].length = 2 := fun _ => rfl
  rw [contentBytes, contentWords_eq]
  refine ⟨?_, fun i => ?_⟩
  · rw [length_flatMap_of_uniform uniform, List.length_map, List.length_range]
  · have entry := entry_of_flatMap uniform ((List.range 251).map fun i => flashWord flash (i + 2)) [] i.val (by simp)
    rw [List.append_nil, List.getElem_map, List.getElem_range, word_bytes] at entry
    exact entry

/-! ### The two reactions of a load -/

/-- The queue once a cut of the pool to the limit `e` is told. -/
def State.tellCut (s : State) (e : Nat) (queue : List Notice) : List Notice :=
  if e ≠ s.supply.limit ∧ e < s.grants.poolSum then
    arrive ⟨.poolCut, s.grants.openMask, BitVec.ofNat 16 (e / 1024)⟩ queue
  else queue

theorem State.tellCut_of_uncut {s : State} {e : Nat} (uncut : ¬(e ≠ s.supply.limit ∧ e < s.grants.poolSum))
    (queue : List Notice) : s.tellCut e queue = queue :=
  if_neg uncut

/-- What both reactions leave, whatever their order: the announced changes of the thermal states, and every other
record; E and the queue apart. -/
structure State.Reacted (s t : State) : Prop where
  raised : s.TripsRaised t
  records : ∀ i : Fin 9, i ≠ 2 → t.events.records[i] = s.events.records[i]
  alertMask : t.events.alertMask = s.events.alertMask

/-- The states first, then E. -/
theorem State.reevaluateThermal_recomputeLimit (s : State) {e : Nat}
    (limit : effectiveLimit s.supply.applied s.context.current.poolLimit s.supply.settings = e) :
    s.Reacted s.reevaluateThermal.recomputeLimit ∧
      s.reevaluateThermal.recomputeLimit.notices =
        s.tellCut e (s.toldTrips s.reevaluateThermal.recomputeLimit s.notices) := by
  obtain ⟨raised, told, records, mask⟩ := State.changeThermal_raises s s.thermal.reevaluateAll
  have frame := s.reevaluateThermal_frame
  change s.TripsRaised s.reevaluateThermal at raised
  change s.reevaluateThermal.notices = s.toldTrips s.reevaluateThermal s.notices at told
  change ∀ i : Fin 9, i ≠ 2 → s.reevaluateThermal.events.records[i] = _ at records
  change s.reevaluateThermal.events.alertMask = _ at mask
  generalize s.reevaluateThermal = u at raised told records mask frame ⊢
  obtain ⟨-, -, -, -, grants, -, -, -, supply, -, context, -⟩ := frame
  have same : effectiveLimit u.supply.applied u.context.current.poolLimit u.supply.settings = e := by
    rw [supply, context]
    exact limit
  rw [u.recomputeLimit_eq same]
  refine ⟨⟨raised, records, mask⟩, ?_⟩
  change u.cutTold e = s.tellCut e (s.toldTrips u s.notices)
  rw [State.cutTold, State.tellCut, supply, grants, told]

/-- E first, then the states. -/
theorem State.recomputeLimit_reevaluateThermal (s : State) {e : Nat}
    (limit : effectiveLimit s.supply.applied s.context.current.poolLimit s.supply.settings = e) :
    s.Reacted s.recomputeLimit.reevaluateThermal ∧
      s.recomputeLimit.reevaluateThermal.notices =
        s.toldTrips s.recomputeLimit.reevaluateThermal (s.tellCut e s.notices) := by
  rw [s.recomputeLimit_eq limit]
  obtain ⟨raised, told, records, mask⟩ := State.changeThermal_raises
    { s with supply := { s.supply with limit := e }, notices := s.cutTold e } s.thermal.reevaluateAll
  exact ⟨⟨raised, records, mask⟩, told⟩

/-- The order of the two notices is open exactly where both are queued. -/
theorem State.loadNoticesOpen_iff (s : State) {t : State} {e : Nat}
    (limit : effectiveLimit s.supply.applied s.context.current.poolLimit s.supply.settings = e)
    (thermal : t.thermal = s.thermal.reevaluateAll) :
    s.loadNoticesOpen = true ↔ (e ≠ s.supply.limit ∧ e < s.grants.poolSum) ∧ s.tripChanges t ≠ 0 := by
  rw [s.tripChanges_eq, thermal, ← limit, State.loadNoticesOpen, Bool.and_eq_true, decide_eq_true_iff,
    decide_eq_true_iff, and_comm]

/-- The queue and the counter of the free values after both reactions, by whether the order of their notices is open. -/
def State.LoadTold (s t : State) (e : Nat) : Prop :=
  let cut := e ≠ s.supply.limit ∧ e < s.grants.poolSum
  (¬(cut ∧ s.tripChanges t ≠ 0) → t.notices = s.toldTrips t (s.tellCut e s.notices) ∧ t.freeCount = s.freeCount) ∧
    (cut ∧ s.tripChanges t ≠ 0 →
      (t.notices = s.toldTrips t (s.tellCut e s.notices) ∨ t.notices = s.tellCut e (s.toldTrips t s.notices)) ∧
        t.freeCount = s.freeCount + 1)

/-- Both reactions together: what they raise, and the queue and the counter of the free values by whether the order
is open. -/
theorem State.reactToLoad_raises (s : State) {e : Nat}
    (limit : effectiveLimit s.supply.applied s.context.current.poolLimit s.supply.settings = e) :
    s.Reacted s.reactToLoad ∧ s.LoadTold s.reactToLoad e := by
  have openOrder := s.loadNoticesOpen_iff limit s.reactToLoad_thermal_supply.1
  by_cases both : s.loadNoticesOpen = true
  · have counted : s.reactToLoad = if Config.tripChangeFirst s.freeCount then
        (s.withFreeCount (s.freeCount + 1)).reevaluateThermal.recomputeLimit
        else (s.withFreeCount (s.freeCount + 1)).recomputeLimit.reevaluateThermal := if_pos both
    obtain ⟨⟨raised, records, mask⟩, told⟩ :=
      (s.withFreeCount (s.freeCount + 1)).reevaluateThermal_recomputeLimit limit
    obtain ⟨⟨raised', records', mask'⟩, told'⟩ :=
      (s.withFreeCount (s.freeCount + 1)).recomputeLimit_reevaluateThermal limit
    refine ⟨?_, fun single => absurd (openOrder.mp both) single, fun _ => ⟨?_, ?_⟩⟩ <;> rw [counted]
    · split
      · exact ⟨raised, records, mask⟩
      · exact ⟨raised', records', mask'⟩
    · split
      · exact .inr told
      · exact .inl told'
    · split <;> simp
  · have reacted : s.reactToLoad = s.reevaluateThermal.recomputeLimit := if_neg both
    have free : s.reactToLoad.freeCount = s.freeCount := by
      rw [reacted]
      simp
    obtain ⟨raised, told⟩ := s.reevaluateThermal_recomputeLimit limit
    rw [← reacted] at raised told
    refine ⟨raised, fun single => ⟨?_, free⟩, fun two => absurd (openOrder.mpr two) both⟩
    rw [told]
    by_cases changed : s.tripChanges s.reactToLoad = 0
    · rw [State.toldTrips, State.toldTrips, if_pos changed, if_pos changed]
    · have uncut : ¬(e ≠ s.supply.limit ∧ e < s.grants.poolSum) := fun isCut => single ⟨isCut, changed⟩
      rw [s.tellCut_of_uncut uncut, s.tellCut_of_uncut uncut]

/-! ### Load completion -/

/-- The changes between two states depend on the thermal states before alone. -/
theorem State.tripEntries_of_states {s u : State}
    (states : ∀ c : Chain, u.thermal.chains[c].state = s.thermal.chains[c].state) (t : State) :
    u.tripEntries t = s.tripEntries t := by
  simp only [State.tripEntries, states]

theorem State.toldTrips_of_states {s u : State}
    (states : ∀ c : Chain, u.thermal.chains[c].state = s.thermal.chains[c].state) (t : State) :
    u.tripChanges t = s.tripChanges t ∧ ∀ queue : List Notice, u.toldTrips t queue = s.toldTrips t queue := by
  have changes : u.tripChanges t = s.tripChanges t := by simp only [State.tripChanges, states]
  refine ⟨changes, fun queue => ?_⟩
  rw [State.toldTrips, State.toldTrips, changes]

theorem State.LoadTold.of_states {s t : State} {k : Contents} {status : ImageStatus} {e : Nat}
    (told : (s.applyLoad k status).LoadTold t e)
    (states : ∀ c : Chain, (s.applyLoad k status).thermal.chains[c].state = s.thermal.chains[c].state) :
    s.LoadTold t e := by
  obtain ⟨changes, same⟩ := State.toldTrips_of_states states t
  have cut : ∀ queue : List Notice, (s.applyLoad k status).tellCut e queue = s.tellCut e queue := fun _ => rfl
  rw [State.LoadTold, changes] at told
  simp only [same, cut] at told
  exact told

/-- IMAGE_BAD counts in its own record and moves nothing else that a load or a reset raises. -/
theorem State.raiseEvent_imageBad_records (t : State) {i : Fin 9} (other : i ≠ 8) :
    (t.raiseEvent .imageBad 0).events.records[i] = t.events.records[i] := by
  rw [State.raiseEvent_events, getElem_set_fin]
  exact if_neg other

theorem State.raiseEvent_imageBad_record (t : State) :
    (t.raiseEvent .imageBad 0).events.records[(8 : Fin 9)] = t.events.records[(8 : Fin 9)].take 0 := by
  rw [State.raiseEvent_events, getElem_set_fin]
  exact if_pos rfl

theorem State.TripsRaised.raise_imageBad {s t : State} (raised : s.TripsRaised t) :
    s.TripsRaised (t.raiseEvent .imageBad 0) := by
  obtain ⟨record, passed, blocked⟩ := raised
  exact ⟨(t.raiseEvent_imageBad_records (i := 2) (by decide)).trans record, passed, blocked⟩

/-- The contents the load applies and the blocks' reactions to them, before IMAGE_BAD. -/
def State.loaded (s : State) (k : Contents) (status : ImageStatus) : State :=
  (s.applyLoad k status).reactToLoad

theorem State.completeLoad_eq (s : State) (k : Contents) (status : ImageStatus) :
    s.completeLoad k status =
      if status = .defaultsUsed then (s.loaded k status).raiseEvent .imageBad 0 else s.loaded k status := rfl

/-- The state a load's announcements are judged on: the contents' context and sequencer tables, and the thermal states
as they were. -/
def State.toLoad (s : State) (k : Contents) (status : ImageStatus) : State :=
  { s with
    loader := ⟨.ready, status, some k⟩
    context := ⟨k.context, s.context.stack⟩
    sequencer := s.sequencer.load k }

/-- What the reactions of a load raise. -/
theorem State.loaded_raises (s : State) (k : Contents) (status : ImageStatus) {e : Nat}
    (limit : effectiveLimit s.supply.applied k.context.poolLimit k.overload = e) :
    let t := s.loaded k status
    (s.toLoad k status).TripsRaised t ∧ (∀ i : Fin 9, i ≠ 2 → t.events.records[i] = s.events.records[i]) ∧
      t.events.alertMask = k.alertMask ∧
      s.LoadTold t e := by
  intro t
  obtain ⟨⟨⟨record, passed, blocked⟩, records, mask⟩, told⟩ :=
    (s.applyLoad k status).reactToLoad_raises (e := e) limit
  have states : ∀ c : Chain, (s.applyLoad k status).thermal.chains[c].state = s.thermal.chains[c].state := fun c => by
    change (Vector.ofFn fun c : Fin 4 => { s.thermal.chains[c] with coeffs := k.coeffs[c] })[c].state = _
    rw [getElem_ofFn_fin]
  have entries := State.tripEntries_of_states states t
  change _ = recordOfTrips ((s.applyLoad k status).tripEntries t) _ at record
  change (s.applyLoad k status).tripEntries t ≠ [] ∧ _ → _ at passed
  change ¬((s.applyLoad k status).tripEntries t ≠ [] ∧ _) → _ at blocked
  rw [entries] at record passed blocked
  exact ⟨⟨record, passed, blocked⟩, records, mask, told.of_states states⟩

/-- A load completion reaches neither the queue of commands nor the lists, accounts, counters, link and port. -/
theorem State.completeLoad_whole (s : State) (k : Contents) (status : ImageStatus) :
    s.completeLoad k status = { s with
      loader := (s.completeLoad k status).loader, scanner := (s.completeLoad k status).scanner
      thermal := (s.completeLoad k status).thermal, classifier := (s.completeLoad k status).classifier
      sequencer := (s.completeLoad k status).sequencer, context := (s.completeLoad k status).context
      windows := (s.completeLoad k status).windows, supply := (s.completeLoad k status).supply
      mismatch := (s.completeLoad k status).mismatch, events := (s.completeLoad k status).events
      notices := (s.completeLoad k status).notices, freeCount := (s.completeLoad k status).freeCount } := by
  have kept : (s.completeLoad k status).pending = s.pending ∧ (s.completeLoad k status).rstHeld = s.rstHeld ∧
      (s.completeLoad k status).link = s.link ∧ (s.completeLoad k status).engine = s.engine ∧
      (s.completeLoad k status).grants = s.grants ∧ (s.completeLoad k status).policy = s.policy := by
    unfold State.completeLoad
    dsimp only
    split <;> simp [State.applyLoad]
  generalize s.completeLoad k status = t at kept ⊢
  cases t
  simp_all

/-- What a load completion raises: what the reactions raise, and IMAGE_BAD on the defaults. -/
theorem State.completeLoad_raises (s : State) (k : Contents) (status : ImageStatus) {e : Nat}
    (limit : effectiveLimit s.supply.applied k.context.poolLimit k.overload = e) :
    let t := s.completeLoad k status
    (s.toLoad k status).TripsRaised t ∧ (∀ i : Fin 9, i ≠ 2 → i ≠ 8 → t.events.records[i] = s.events.records[i]) ∧
      (status ≠ .defaultsUsed → t.events.records[8] = s.events.records[8]) ∧
      (status = .defaultsUsed → t.events.records[8] = s.events.records[8].take 0) ∧
      t.events.alertMask = k.alertMask ∧
      s.LoadTold t e := by
  obtain ⟨raised, records, mask, told⟩ := s.loaded_raises k status limit
  rw [s.completeLoad_eq]
  generalize s.loaded k status = u at raised records mask told ⊢
  by_cases defaults : status = .defaultsUsed
  · rw [if_pos defaults]
    refine ⟨raised.raise_imageBad, fun i notTrip notBad => ?_, fun image => absurd defaults image, fun _ => ?_, mask,
      told⟩
    · exact (State.raiseEvent_imageBad_records _ notBad).trans (records i notTrip)
    · exact (State.raiseEvent_imageBad_record _).trans (congrArg (EventRecord.take · 0) (records 8 (by decide)))
  · rw [if_neg defaults]
    exact ⟨raised, fun i notTrip _ => records i notTrip, fun _ => records 8 (by decide), fun bad => absurd bad defaults,
      mask, told⟩

theorem exec_loadCompletion {s : State} (running : s.rstHeld = false) (loading : s.loader.load = .loading)
    (flash : List Word16) :
    exec (.loadCompletion flash) s = .next (s.completeLoad (chosenContents flash) (chosenStatus flash)) := by
  rw [exec, execLoadCompletion, State.unlessHeld_running running, if_pos (s.isLoading_iff.mpr loading)]

theorem chosenStatus_iff (flash : List Word16) :
    ((judgeImage flash).isSome = true → chosenStatus flash ≠ .defaultsUsed) ∧
      ((judgeImage flash).isSome = false → chosenStatus flash = .defaultsUsed) := by
  unfold chosenStatus
  cases (judgeImage flash).isSome <;> simp

/-- The sequencer's tables and timer, which no start of a run changes. -/
theorem State.TripsRaised.sequencer {s t : State} (raised : s.TripsRaised t) :
    t.sequencer.program = s.sequencer.program ∧ t.sequencer.settings = s.sequencer.settings ∧
      t.sequencer.triggers = s.sequencer.triggers ∧ t.sequencer.timer = s.sequencer.timer := by
  obtain ⟨-, passed, blocked⟩ := raised
  by_cases passes : s.tripEntries t ≠ [] ∧ s.context.current.triggers.getLsbD 1 = true ∧ s.events.latch = none ∧
      s.loader.load = .ready
  · simp [(passed passes).2]
  · simp [(blocked passes).2]

theorem SensorScanner.load_inputs (r : SensorScanner) (k : Contents) (i : Input) :
    (r.load k).inputs[i] = { r.inputs[i] with cal := k.sensors[i] } :=
  getElem_ofFn_fin _ i

theorem SensorScanner.load_inFlight (r : SensorScanner) (k : Contents) :
    (r.load k).inFlight = some ⟨0, k.sensors[(0 : Input)]⟩ :=
  congrArg (fun x : SensorRecord => some (⟨0, x.cal⟩ : Conversion)) (r.load_inputs k 0)

/-- A chain's record once its coefficients are replaced and its state re-evaluated (R89, R90). -/
theorem ThermalEstimator.withContents_reevaluated (t : ThermalEstimator) (k : Contents) (c : Chain) :
    (t.withContents k).reevaluateAll.chains[c] =
      { t.chains[c] with
        coeffs := k.coeffs[c]
        state := reevaluated k.coeffs[c] t.chains[c].estimate t.chains[c].state } := by
  rw [ThermalEstimator.reevaluateAll, getElem_ofFn_fin, ThermalEstimator.withContents, getElem_ofFn_fin]
  rfl

theorem Contents.classifier_matchers (k : Contents) (i : Fin 6) :
    k.classifier.matchers[i] =
      ⟨if k.matchers[i].enable then .enabled else .disabled, k.matchers[i].mask, k.matchers[i].value,
        k.matchers[i].cls, none⟩ :=
  getElem_ofFn_fin _ i

/-- Settles O9: the tests and the area of the image, its sections, and the load. -/
theorem loadCompletionAppliesContents : Obligations.LoadCompletionAppliesContents := by
  unfold Obligations.LoadCompletionAppliesContents
  refine ⟨fun flash => ?_, fun bytes k => parseContents_iff_readsFrom, fun flash s running loading => ?_⟩
  · intro word sum
    have sums : imageSum flash = sum % 65536 := imageSum_eq flash
    obtain ⟨length, entry⟩ := contentBytes_layout flash
    refine ⟨fun mark => ?_, fun size => ?_, fun odd => ?_, fun mark size even => ?_, length, entry⟩ <;>
      rw [judgeImage_eq_ite]
    · exact if_neg fun good => mark good.1
    · exact if_neg fun good => size good.2.1
    · exact if_neg fun good => odd (sums ▸ good.2.2)
    · exact if_pos ⟨mark, size, sums.trans even⟩
  · intro k e cut tellCut applied
    have limit : effectiveLimit s.supply.applied k.context.poolLimit k.overload = e := by
      change _ = match s.supply.applied with
        | .nominal => k.context.poolLimit
        | .warn => k.context.poolLimit / 2 ^ k.overload.warnShift
        | .crit => min k.overload.critLimit k.context.poolLimit
      cases s.supply.applied <;> rfl
    obtain ⟨good, bad⟩ := chosenStatus_iff flash
    obtain ⟨loader, scanner, thermal, classifier, context, windows, supply, mismatch⟩ :=
      s.completeLoad_blocks k (chosenStatus flash)
    obtain ⟨raised, records, image, defaults, mask, single, both⟩ := s.completeLoad_raises k (chosenStatus flash) limit
    obtain ⟨program, settings, triggers, timer⟩ := raised.sequencer
    have whole := s.completeLoad_whole k (chosenStatus flash)
    refine ⟨s.completeLoad k (chosenStatus flash), exec_loadCompletion running loading flash, ?_⟩
    generalize s.completeLoad k (chosenStatus flash) = t at *
    refine ⟨loader, ?_, by rw [scanner]; rfl, by rw [scanner]; rfl, fun i => ?_, fun c => ?_, by rw [thermal]; rfl,
      by rw [thermal]; rfl, by rw [thermal]; rfl, by rw [thermal]; rfl, by rw [classifier]; rfl, by rw [classifier]; rfl,
      by rw [classifier]; rfl, fun i => ?_, program, settings, triggers, timer, context, windows, ?_, mismatch, mask,
      raised, records, fun used => image (good used), fun unused => defaults (bad unused), single, both, whole⟩
    · rw [scanner]
      exact s.scanner.load_inFlight k
    · rw [scanner]
      exact s.scanner.load_inputs k i
    · rw [thermal]
      exact s.thermal.withContents_reevaluated k c
    · rw [classifier]
      exact k.classifier_matchers i
    · rw [supply, limit]

end Sys2Proof.Machine
end

section
/-! Proofs about what a soft reset restores and raises (R182). -/

namespace Sys2Proof.Machine

/-! ### The restore and IMAGE_BAD -/

/-- Every block restored, and IMAGE_BAD again on the defaults. -/
def State.marked (s : State) : State :=
  if (s.restored s.retainedContents).onDefaults then (s.restored s.retainedContents).raiseEvent .imageBad 0
  else s.restored s.retainedContents

theorem State.softReset_eq (s : State) : s.softReset = s.marked.applySampled.reevaluateThermal.tellTripped := rfl

theorem EventLatch.restore_records (k : Contents) (i : Fin 9) : (EventLatch.restore k).records[i] = ⟨false, 0, 0⟩ :=
  Vector.getElem_replicate i.isLt

theorem State.marked_frame (s : State) :
    s.marked.grants = ⟨Vector.replicate 4 GrantChain.zero, 0⟩ ∧ s.marked.thermal = s.thermal.restore s.retainedContents ∧
      s.marked.sequencer = s.sequencer.restore s.retainedContents ∧
      s.marked.supply = { s.supply.sampled with settings := s.retainedContents.overload, hold := none } ∧
      s.marked.context = ⟨s.retainedContents.context, []⟩ ∧ s.marked.notices = [] ∧ s.marked.loader = s.loader := by
  unfold State.marked
  split <;> simp [State.restored]

theorem State.marked_events (s : State) :
    (∀ i : Fin 9, i ≠ 8 → s.marked.events.records[i] = ⟨false, 0, 0⟩) ∧
      s.marked.events.records[8] = (if s.loader.image = .defaultsUsed then ⟨true, 0, 1⟩ else ⟨false, 0, 0⟩) ∧
      s.marked.events.alertMask = s.retainedContents.alertMask ∧ s.marked.events.latch = none := by
  have cleared := EventLatch.restore_records s.retainedContents
  have image : (s.restored s.retainedContents).onDefaults = true ↔ s.loader.image = .defaultsUsed := beq_iff_eq
  unfold State.marked
  by_cases defaults : s.loader.image = .defaultsUsed
  · rw [if_pos (image.mpr defaults), if_pos defaults]
    refine ⟨fun i other => ?_, ?_, rfl, rfl⟩
    · exact (State.raiseEvent_imageBad_records _ other).trans (cleared i)
    · exact (State.raiseEvent_imageBad_record _).trans (congrArg (EventRecord.take · 0) (cleared 8))
  · rw [if_neg (mt image.mp defaults), if_neg defaults]
    exact ⟨fun i _ => cleared i, cleared 8, rfl, rfl⟩

/-! ### The overload level found on re-sampling -/

/-- An event record after one event at most, whose bits are 0. -/
def recordOf (raised : Bool) : EventRecord :=
  if raised then ⟨true, 0, 1⟩ else ⟨false, 0, 0⟩

/-- With no grant open the recomputed E queues nothing. -/
theorem State.applySampled_of_empty {s : State} (empty : s.grants.poolSum = 0) :
    ∃ x : SupplyPool, s.applySampled =
      (if s.supply.applied.code < s.supply.target.code then
        (s.applyLevel s.supply.target).announceLevel s.supply.target
      else s.applyLevel s.supply.target).withSupply x := by
  unfold State.applySampled
  dsimp only
  generalize told : (if s.supply.applied.code < s.supply.target.code then
    (s.applyLevel s.supply.target).announceLevel s.supply.target else s.applyLevel s.supply.target) = t
  have still : t.grants.poolSum = 0 := by
    rw [← told]
    split <;> simpa [State.applyLevel] using empty
  exact ⟨_, State.recomputeLimit_of_poolSum_zero still rfl⟩

/-- A cleared record takes the event of a rise, and the other records stand. -/
theorem State.raiseEvent_cleared {s : State} {k : EventKind} (clear : s.events.records[k.index] = ⟨false, 0, 0⟩)
    (i : Fin 9) :
    (s.raiseEvent k 0).events.records[i] = if i = k.index then ⟨true, 0, 1⟩ else s.events.records[i] := by
  rw [State.raiseEvent_of_clear clear]
  exact getElem_set_fin s.events.records k.index i _

/-- A level announced by a READY part with its records cleared and the sequencer IDLE. -/
theorem State.announceLevel_of_cleared {s : State} (ready : s.loader.load = .ready)
    (cleared : ∀ i : Fin 9, i ≠ 8 → s.events.records[i] = ⟨false, 0, 0⟩) (latch : s.events.latch = none)
    (idle : s.sequencer.state = .idle) (level : SupplyLevel) :
    let crit := level = .crit ∧ s.context.current.triggers.getLsbD 0 = true
    let t := s.announceLevel level
    t.events.records[0] = recordOf (decide (level = .warn)) ∧
      t.events.records[1] = recordOf (decide (level = .crit)) ∧
      (∀ i : Fin 9, i ≠ 0 → i ≠ 1 → t.events.records[i] = s.events.records[i]) ∧
      t.events.alertMask = s.events.alertMask ∧
      (crit → t.events.latch = some .overloadCrit ∧
        t.sequencer = { s.sequencer with state := .starting, run := s.sequencer.triggers[0] }) ∧
      (¬crit → t.events.latch = none ∧ t.sequencer = s.sequencer) := by
  intro crit t
  have warnClear : s.events.records[(0 : Fin 9)] = ⟨false, 0, 0⟩ := cleared 0 (by decide)
  have critClear : s.events.records[(1 : Fin 9)] = ⟨false, 0, 0⟩ := cleared 1 (by decide)
  cases level with
  | nominal => exact ⟨warnClear, critClear, fun _ _ _ => rfl, rfl, fun h => (nomatch h.1), fun _ => ⟨latch, rfl⟩⟩
  | warn =>
    have records := State.raiseEvent_cleared (k := .overloadWarn) warnClear
    exact ⟨records 0, (records 1).trans critClear, fun i notWarn _ => (records i).trans (if_neg notWarn), rfl,
      fun h => (nomatch h.1), fun _ => ⟨latch, rfl⟩⟩
  | crit =>
    have records := State.raiseEvent_cleared (k := .overloadCrit) critClear
    obtain ⟨passed, blocked⟩ := (s.raiseEvent .overloadCrit 0).presentTrigger_by_gate .overloadCrit
    obtain ⟨same, mask⟩ := (s.raiseEvent .overloadCrit 0).presentTrigger_records .overloadCrit
    have moved : ∀ i : Fin 9, t.events.records[i] = (s.raiseEvent .overloadCrit 0).events.records[i] :=
      fun i => congrArg (fun v : Vector EventRecord 9 => v[i]) same
    refine ⟨(moved 0).trans ((records 0).trans warnClear), (moved 1).trans (records 1),
      fun i _ notCrit => (moved i).trans ((records i).trans (if_neg notCrit)), mask, fun h => ?_, fun h => ?_⟩
    · obtain ⟨latched, started⟩ := passed ⟨h.2, latch, ready⟩
      exact ⟨latched, started.trans (BackoffSequencer.takeStart_of_idle idle _)⟩
    · obtain ⟨latched, stands⟩ := blocked fun gate => h ⟨rfl, gate.1⟩
      exact ⟨latched.trans latch, stands⟩

/-- A READY part with its records cleared, no grant open and the sequencer IDLE takes the re-sampled level: what it
raises, and that no notice is queued. -/
theorem State.applySampled_of_cleared {s : State} (empty : s.grants.poolSum = 0) (ready : s.loader.load = .ready)
    (cleared : ∀ i : Fin 9, i ≠ 8 → s.events.records[i] = ⟨false, 0, 0⟩) (latch : s.events.latch = none)
    (idle : s.sequencer.state = .idle) :
    let rise := s.supply.applied.code < s.supply.target.code
    let crit := rise ∧ s.supply.target = .crit ∧ s.context.current.triggers.getLsbD 0 = true
    let t := s.applySampled
    t.notices = s.notices ∧ t.events.records[0] = recordOf (decide (rise ∧ s.supply.target = .warn)) ∧
      t.events.records[1] = recordOf (decide (rise ∧ s.supply.target = .crit)) ∧
      (∀ i : Fin 9, i ≠ 0 → i ≠ 1 → t.events.records[i] = s.events.records[i]) ∧
      t.events.alertMask = s.events.alertMask ∧
      (crit → t.events.latch = some .overloadCrit ∧
        t.sequencer = { s.sequencer with state := .starting, run := s.sequencer.triggers[0] }) ∧
      (¬crit → t.events.latch = none ∧ t.sequencer = s.sequencer) := by
  intro rise crit t
  obtain ⟨x, sampled⟩ := State.applySampled_of_empty empty
  change t = _ at sampled
  by_cases risen : rise
  · obtain ⟨warn, level, records, mask, passed, blocked⟩ :=
      State.announceLevel_of_cleared (s := s.applyLevel s.supply.target) ready cleared latch idle s.supply.target
    have notices : ((s.applyLevel s.supply.target).announceLevel s.supply.target).notices = s.notices := by
      simp [State.applyLevel]
    have only : ∀ p : Prop, (rise ∧ p) = p := fun p => propext ⟨fun h => h.2, fun h => ⟨risen, h⟩⟩
    rw [sampled, if_pos risen]
    refine ⟨notices, ?_, ?_, records, mask, fun h => passed h.2, fun h => blocked fun g => h ⟨risen, g⟩⟩
    · simp only [only]
      exact warn
    · simp only [only]
      exact level
  · have noCrit : ¬crit := fun h => risen h.1
    have noWarn : decide (rise ∧ s.supply.target = .warn) = false := decide_eq_false fun h => risen h.1
    have noLevel : decide (rise ∧ s.supply.target = .crit) = false := decide_eq_false fun h => risen h.1
    rw [sampled, if_neg risen, noWarn, noLevel]
    exact ⟨rfl, cleared 0 (by decide), cleared 1 (by decide), fun _ _ _ => rfl, rfl, fun h => absurd h noCrit,
      fun _ => ⟨latch, rfl⟩⟩

/-! ### The whole soft reset -/

/-- The queue of a part with no notice, once the trips found on re-evaluation and the tripped chains are told. -/
theorem State.tellTripped_notices {s t : State} (told : t.notices = s.toldTrips t []) :
    t.tellTripped.notices =
      if s.tripChanges t = 0 ∧ t.trippedIn = 0 then []
      else [⟨.tripChange, s.tripChanges t ||| t.trippedIn, t.trippedIn.zeroExtend 16⟩] := by
  have tells : t.tellTripped.notices = if t.trippedIn = 0 then t.notices
      else arrive ⟨.tripChange, t.trippedIn, t.trippedIn.zeroExtend 16⟩ t.notices := by
    rw [State.tellTripped, ← t.trippedIn_eq]
    split
    · rfl
    · rw [State.queueNotice_notices, ofNat_toNat_zeroExtend]
  rw [tells, told, State.toldTrips]
  generalize s.tripChanges t = changed, t.trippedIn = tripped
  by_cases none_changed : changed = 0#4 <;> by_cases none_tripped : tripped = 0#4 <;>
    simp [none_changed, none_tripped, arrive]

/-- The thermal state of each chain before a soft reset is what its re-evaluation starts from. -/
theorem ThermalEstimator.restore_states (t : ThermalEstimator) (k : Contents) (c : Chain) :
    (t.restore k).chains[c].state = t.chains[c].state := by
  change (Vector.ofFn fun c : Fin 4 => { t.chains[c] with coeffs := k.coeffs[c] })[c].state = _
  rw [getElem_ofFn_fin]

/-- The trips found on re-evaluation and the tripped chains' notice, in a READY part without a notice whose thermal
states are those of `s`. -/
theorem State.reevaluateThermal_tellTripped {s u : State}
    (states : ∀ c : Chain, u.thermal.chains[c].state = s.thermal.chains[c].state) (quiet : u.notices = [])
    (ready : u.loader.load = .ready) {t : State} (told : t = u.reevaluateThermal.tellTripped) :
    t.events.records[2] = recordOfTrips (s.tripEntries t) u.events.records[2] ∧
      (∀ i : Fin 9, i ≠ 2 → t.events.records[i] = u.events.records[i]) ∧ t.events.alertMask = u.events.alertMask ∧
      (s.tripEntries t ≠ [] ∧ u.context.current.triggers.getLsbD 1 = true ∧ u.events.latch = none →
        t.events.latch = some .trip ∧ t.sequencer = u.sequencer.takeStart u.sequencer.triggers[1]) ∧
      (¬(s.tripEntries t ≠ [] ∧ u.context.current.triggers.getLsbD 1 = true ∧ u.events.latch = none) →
        t.events.latch = u.events.latch ∧ t.sequencer = u.sequencer) ∧
      t.notices = if s.tripChanges t = 0 ∧ t.trippedIn = 0 then []
        else [⟨.tripChange, s.tripChanges t ||| t.trippedIn, t.trippedIn.zeroExtend 16⟩] := by
  have raises : u.TripsRaised u.reevaluateThermal ∧
      u.reevaluateThermal.notices = u.toldTrips u.reevaluateThermal u.notices ∧
      (∀ i : Fin 9, i ≠ 2 → u.reevaluateThermal.events.records[i] = u.events.records[i]) ∧
      u.reevaluateThermal.events.alertMask = u.events.alertMask := State.changeThermal_raises u _
  generalize u.reevaluateThermal = v at raises told
  obtain ⟨⟨record, passed, blocked⟩, announced, records, mask⟩ := raises
  obtain ⟨-, -, -, -, -, -, thermal, -, -, sequencer, -, -, -, events, -⟩ := v.tellTripped_frame
  rw [← told] at thermal sequencer events
  have entries : u.tripEntries v = s.tripEntries t := by
    rw [State.tripEntries_of_states states, State.tripEntries_eq, State.tripEntries_eq, thermal]
  have changes : s.tripChanges v = s.tripChanges t := by
    rw [State.tripChanges_eq, State.tripChanges_eq, thermal]
  have tripped : v.trippedIn = t.trippedIn := by
    rw [State.trippedIn_eq, State.trippedIn_eq, thermal]
  rw [quiet, (State.toldTrips_of_states states v).2] at announced
  rw [entries] at record passed blocked
  rw [events, sequencer]
  refine ⟨record, records, mask, fun h => passed ⟨h.1, h.2.1, h.2.2, ready⟩,
    fun h => blocked fun g => h ⟨g.1, g.2.1, g.2.2.1⟩, ?_⟩
  rw [told, State.tellTripped_notices announced, changes, tripped, ← told]

/-- A soft reset up to the re-sampled level: what it raises, with the records cleared before. -/
theorem State.marked_sampled {s u : State} (ready : s.loader.load = .ready) (sampled : u = s.marked.applySampled)
    {level : SupplyLevel} (found : s.supply.sampled.target = level) :
    let k := s.retainedContents
    let q := s.sequencer.restore k
    let rise := s.supply.applied.code < level.code
    let crit := rise ∧ level = .crit ∧ k.context.triggers.getLsbD 0 = true
    u.notices = [] ∧ u.loader = s.loader ∧ u.context = ⟨k.context, []⟩ ∧ u.thermal = s.thermal.restore k ∧
      u.events.records[0] = recordOf (decide (rise ∧ level = .warn)) ∧
      u.events.records[1] = recordOf (decide (rise ∧ level = .crit)) ∧
      (∀ i : Fin 9, 2 ≤ i.val → i.val ≤ 7 → u.events.records[i] = ⟨false, 0, 0⟩) ∧
      u.events.records[8] = (if s.loader.image = .defaultsUsed then ⟨true, 0, 1⟩ else ⟨false, 0, 0⟩) ∧
      u.events.alertMask = k.alertMask ∧
      (crit → u.events.latch = some .overloadCrit ∧ u.sequencer = { q with state := .starting, run := k.triggers[0] }) ∧
      (¬crit → u.events.latch = none ∧ u.sequencer = q) := by
  obtain ⟨grants, thermal, sequencer, supply, context, notices, loader⟩ := s.marked_frame
  obtain ⟨cleared, image, mask, latch⟩ := s.marked_events
  have raises := State.applySampled_of_cleared (s := s.marked) (by rw [grants]) (by rw [loader]; exact ready) cleared
    latch (by rw [sequencer]; rfl)
  obtain ⟨-, -, -, -, -, -, thermal', -, -, -, context', -, loader', -⟩ := s.marked.applySampled_frame
  have target : s.marked.supply.target = level := by
    rw [supply]
    exact found
  have before : s.marked.supply.applied = s.supply.applied := by
    rw [supply]
    rfl
  rw [← sampled] at raises thermal' context' loader'
  rw [target, before, context, sequencer, notices] at raises
  obtain ⟨quiet, warn, crit, records, alertMask, passed, blocked⟩ := raises
  refine ⟨quiet, loader'.trans loader, context'.trans context, thermal'.trans thermal, warn, crit, fun i low high => ?_,
    (records 8 (by decide) (by decide)).trans image, alertMask.trans mask, passed, blocked⟩
  have not_warn : i ≠ 0 := fun h => by simp [h] at low
  have not_crit : i ≠ 1 := fun h => by simp [h] at low
  have not_bad : i ≠ 8 := fun h => by simp [h] at high
  exact (records i not_warn not_crit).trans (cleared i not_bad)

/-- What a soft reset raises, in its order: the level found on re-sampling, then the trips found on re-evaluation. -/
theorem State.softReset_raises {s t : State} (ready : s.loader.load = .ready) (reset : t = s.softReset)
    {level : SupplyLevel} (found : s.supply.sampled.target = level) :
    let k := s.retainedContents
    let q := s.sequencer.restore k
    let rise := s.supply.applied.code < level.code
    let crit := rise ∧ level = .crit ∧ k.context.triggers.getLsbD 0 = true
    let trip := ¬crit ∧ s.tripEntries t ≠ [] ∧ k.context.triggers.getLsbD 1 = true
    t.events.records[0] = recordOf (decide (rise ∧ level = .warn)) ∧
      t.events.records[1] = recordOf (decide (rise ∧ level = .crit)) ∧
      t.events.records[2] = recordOfTrips (s.tripEntries t) ⟨false, 0, 0⟩ ∧
      (∀ i : Fin 9, 3 ≤ i.val → i.val ≤ 7 → t.events.records[i] = ⟨false, 0, 0⟩) ∧
      t.events.records[8] = (if s.loader.image = .defaultsUsed then ⟨true, 0, 1⟩ else ⟨false, 0, 0⟩) ∧
      t.events.alertMask = k.alertMask ∧
      (crit → t.events.latch = some .overloadCrit ∧ t.sequencer = { q with state := .starting, run := k.triggers[0] }) ∧
      (trip → t.events.latch = some .trip ∧ t.sequencer = { q with state := .starting, run := k.triggers[1] }) ∧
      (¬crit → ¬trip → t.events.latch = none ∧ t.sequencer = q) ∧
      t.notices = if s.tripChanges t = 0 ∧ t.trippedIn = 0 then []
        else [⟨.tripChange, s.tripChanges t ||| t.trippedIn, t.trippedIn.zeroExtend 16⟩] := by
  intro k q rise crit trip
  rw [State.softReset_eq] at reset
  obtain ⟨u, sampled⟩ : ∃ u, u = s.marked.applySampled := ⟨_, rfl⟩
  obtain ⟨quiet, loader, context, thermal, warn, level', cleared, image, mask, levelPassed, levelBlocked⟩ :=
    State.marked_sampled ready sampled found
  rw [← sampled] at reset
  have states : ∀ c : Chain, u.thermal.chains[c].state = s.thermal.chains[c].state := fun c => by
    rw [thermal, ThermalEstimator.restore_states]
  obtain ⟨trips, records, alertMask, passed, blocked, notices⟩ :=
    State.reevaluateThermal_tellTripped states quiet (by rw [loader]; exact ready) reset
  rw [context] at passed blocked
  refine ⟨(records 0 (by decide)).trans warn, (records 1 (by decide)).trans level', ?_, fun i low high => ?_,
    (records 8 (by decide)).trans image, alertMask.trans mask, fun risen => ?_, fun tripped => ?_, fun calm still => ?_,
    notices⟩
  · exact trips.trans (congrArg (recordOfTrips _) (cleared 2 (by decide) (by decide)))
  · have not_trip : i ≠ 2 := fun h => by simp [h] at low
    exact (records i not_trip).trans (cleared i (by omega) high)
  · obtain ⟨latched, started⟩ := levelPassed risen
    have stuck := blocked fun h => by simp [latched] at h
    exact ⟨stuck.1.trans latched, stuck.2.trans started⟩
  · obtain ⟨calm, entered, enabled⟩ := tripped
    obtain ⟨latch, sequencer⟩ := levelBlocked calm
    obtain ⟨latched, started⟩ := passed ⟨entered, enabled, latch⟩
    refine ⟨latched, started.trans ?_⟩
    rw [sequencer]
    exact BackoffSequencer.takeStart_of_idle rfl _
  · obtain ⟨latch, sequencer⟩ := levelBlocked calm
    have stuck := blocked fun h => still ⟨calm, h.1, h.2.1⟩
    exact ⟨stuck.1.trans latch, stuck.2.trans sequencer⟩

/-- Whatever starts, the other figures of the sequencer are the restored ones. -/
theorem State.softReset_sequencer {s : State} (ready : s.loader.load = .ready) :
    ∃ (state : SequencerState) (run : RunParams),
      s.softReset.sequencer = { s.sequencer.restore s.retainedContents with state := state, run := run } := by
  obtain ⟨-, -, -, -, -, -, risen, tripped, still, -⟩ := State.softReset_raises ready rfl rfl
  by_cases crit : s.supply.applied.code < s.supply.sampled.target.code ∧ s.supply.sampled.target = .crit ∧
      s.retainedContents.context.triggers.getLsbD 0 = true
  · exact ⟨_, _, (risen crit).2⟩
  · by_cases trip : s.tripEntries s.softReset ≠ [] ∧ s.retainedContents.context.triggers.getLsbD 1 = true
    · exact ⟨_, _, (tripped ⟨crit, trip⟩).2⟩
    · exact ⟨_, _, (still crit fun h => trip h.2).2⟩

theorem exec_softReset {s : State} (serving : s.Serving 0x61) :
    exec (.softReset []) s = .next (s.softReset.reply .ok []) :=
  exec_of_answer (b := 0x61) (n := 0) (p := []) rfl serving rfl rfl

/-- With no chain TRIPPED before, the chains that changed are those that are TRIPPED after. -/
theorem State.tripChanges_of_calm {s : State} (calm : ∀ c : Chain, s.thermal.chains[c].state ≠ .tripped) (t : State) :
    s.tripChanges t = t.trippedIn := by
  refine congrArg maskOf (funext fun c => decide_eq_decide.mpr ?_)
  have before := calm c
  tauto

/-- Settles O10: the blocks restored, what is raised, and the queue. -/
theorem softResetRestoresRetainedContents : Obligations.SoftResetRestoresRetainedContents := by
  unfold Obligations.SoftResetRestoresRetainedContents
  intro s k serving held
  obtain ⟨running, ready, -⟩ := id serving
  have retained : s.retainedContents = k := by
    rw [State.retainedContents, held]
    rfl
  obtain ⟨link, engine, grants, windows, thermal, classifier, mismatch, context, supply⟩ := s.softReset_blocks
  obtain ⟨pending, rstHeld, scanner, policy, loader, freeCount⟩ := s.softReset_kept
  obtain ⟨warn, level, trips, others, image, mask, risen, tripped, still, notices⟩ :=
    State.softReset_raises ready rfl rfl
  obtain ⟨state, run, sequencer⟩ := State.softReset_sequencer ready
  refine ⟨_, exec_softReset serving, ?_⟩
  simp only [retained] at *
  generalize s.softReset = w at *
  have applied : w.supply.applied = s.supply.sampled.target := by
    rw [supply]
    rfl
  rw [← applied] at warn level risen tripped still
  have chain : ∀ c : Chain, w.grants.chains[c] = ⟨[], 0, 0⟩ ∧ w.engine[c] = ⟨0, 0, 0, .unlimited⟩ ∧
      w.windows.chains[c] = ⟨List.replicate k.shape.count ⟨0, false⟩, 0, 0, 0⟩ ∧
      w.mismatch.chains[c] = ⟨.clear, 0, 0⟩ ∧
      w.thermal.chains[c] =
        { s.thermal.chains[c] with
          coeffs := k.coeffs[c]
          state := reevaluated k.coeffs[c] s.thermal.chains[c].estimate s.thermal.chains[c].state } := fun c => by
    rw [grants, engine, windows, mismatch, thermal]
    exact ⟨Vector.getElem_replicate c.isLt, Vector.getElem_replicate c.isLt, Vector.getElem_replicate c.isLt,
      Vector.getElem_replicate c.isLt, s.thermal.withContents_reevaluated k c⟩
  have raised : let rise := s.supply.applied.code < w.supply.applied.code
      let crit := rise ∧ w.supply.applied = .crit ∧ k.context.triggers.getLsbD 0 = true
      let trip := ¬crit ∧ s.tripEntries w ≠ [] ∧ k.context.triggers.getLsbD 1 = true
      (crit → w.events.latch = some .overloadCrit ∧ w.sequencer.state = .starting ∧
         w.sequencer.run = k.triggers[0]) ∧
       (trip → w.events.latch = some .trip ∧ w.sequencer.state = .starting ∧ w.sequencer.run = k.triggers[1]) ∧
       (¬crit → ¬trip → w.events.latch = none ∧ w.sequencer.state = .idle ∧ w.sequencer.run = s.sequencer.run) := by
    refine ⟨fun h => ?_, fun h => ?_, fun calm cool => ?_⟩
    · rw [(risen h).2]
      exact ⟨(risen h).1, rfl, rfl⟩
    · rw [(tripped h).2]
      exact ⟨(tripped h).1, rfl, rfl⟩
    · rw [(still calm cool).2]
      exact ⟨(still calm cool).1, rfl, rfl⟩
  obtain ⟨critRaised, tripRaised, noneRaised⟩ := raised
  refine ⟨congrArg (·.epoch) link, congrArg (fun p : PolicyPort => PolicyPort.mk none ⟨.ok, []⟩ p.address) policy, chain,
    congrArg (·.poolSum) grants, congrArg (·.shape) windows, congrArg (·.current) windows, congrArg (·.timer) windows,
    congrArg (·.board) thermal, congrArg (·.fallback) thermal, congrArg (·.period) thermal, congrArg (·.timer) thermal,
    pending, rstHeld.trans running, scanner, loader, freeCount, congrArg (·.classes) classifier,
    congrArg (·.service) classifier, congrArg (·.timer) classifier,
    fun i => (congrArg (fun b : BurstClassifier => b.matchers[i]) classifier).trans (k.classifier_matchers i),
    congrArg (·.program) sequencer, congrArg (·.settings) sequencer, congrArg (·.triggers) sequencer,
    congrArg (·.timer) sequencer, ⟨warn, level, trips, others, critRaised, tripRaised, noneRaised, notices⟩,
    congrArg (·.remembered) sequencer, congrArg (·.step) sequencer, congrArg (·.b) sequencer,
    congrArg (·.b0) sequencer, congrArg (·.k) sequencer, congrArg (·.runCount) sequencer,
    congrArg (·.repeatsLeft) sequencer, congrArg (·.increment) sequencer, congrArg (·.holdCount) sequencer,
    congrArg (·.pendingStart) sequencer, congrArg (·.frame) sequencer, congrArg (·.settings) mismatch, context, mask,
    congrArg (·.settings) supply, congrArg (·.hold) supply, congrArg (·.warnLine) supply, congrArg (·.critLine) supply,
    congrArg (·.applied) supply, ?_, image, fun cool calm => ?_⟩
  · have limit := congrArg (·.limit) supply
    exact limit.trans (congrArg (effectiveLimit · k.context.poolLimit k.overload) applied.symm)
  · have tripped : w.trippedIn = 0 := w.trippedIn_eq.trans cool
    exact notices.trans (if_pos ⟨(State.tripChanges_of_calm calm w).trans tripped, tripped⟩)

end Sys2Proof.Machine
end
